-- ==== Sys2Proof/Word.lean ====
section
/-! DEFINITION. The word types of the frame engine (`00_scope.md` R8, `10_state.md` R20). -/

namespace Sys2Proof

/-- A byte: an unsigned 8-bit value, bit 7 the most significant (`00_scope.md` R8). -/
abbrev Byte := BitVec 8

/-- The width of OUTLEN and of `report.consumed` (`20_memory.md` R60). -/
abbrev Count9 := BitVec 9

end Sys2Proof
end

