-- ==== Sys2Proof/Config.lean ====
section
/-! DEFINITION. The parameters of the block (`00_scope.md` R7): the configuration a RESET latches, the
four dispatch ROMs with their baseline contents, and the values the spec leaves free. -/

namespace Sys2Proof

/-- The part of `Config` that the RESET event carries and the block latches (`00_scope.md` R7,
`10_state.md` R37). No rule reads `ackDeadline`; it is a number of seconds (DESIGN CHOICE, log 9). -/
structure Cfg where
  maxRetry    : Byte
  ackDeadline : Nat
  deriving DecidableEq, Repr

/-- What a message-type tag selects (`42_message_decoder.md` R141). -/
inductive L0Kind
  | request
  | response
  deriving DecidableEq, Repr

/-- What a Request sub-type tag selects (`42_message_decoder.md` R143). -/
inductive ReqKind
  | applicationUpdate
  deriving DecidableEq, Repr

/-- What a Response sub-type tag selects: nothing is recognised (`42_message_decoder.md` R147). -/
inductive RspKind
  deriving DecidableEq, Repr

/-- What an ApplicationUpdate sub-type tag selects (`42_message_decoder.md` R145). -/
inductive AuKind
  | infoReceived
  deriving DecidableEq, Repr

/-- The four dispatch ROMs, each indexed by a tag byte (`10_state.md` R39). A ROM is written as the list
of its recognised entries; every tag it does not list is `unknown`. -/
structure Rom where
  l0  : List (Byte × L0Kind)
  req : List (Byte × ReqKind)
  rsp : List (Byte × RspKind)
  au  : List (Byte × AuKind)
  deriving DecidableEq, Repr

/-- The entry of a ROM at a tag; `none` is the entry `unknown`. -/
def Rom.entry {α : Type} : List (Byte × α) → Byte → Option α
  | [], _ => none
  | (k, x) :: table, t => if k = t then some x else Rom.entry table t

/-- The baseline contents (`42_message_decoder.md` R141, R143, R145, R147). -/
def Rom.baseline : Rom where
  l0  := [(0x00, .request), (0x01, .response)]
  req := [(0x49, .applicationUpdate)]
  rsp := []
  au  := [(0x84, .infoReceived)]

/-- ARB (`00_scope.md` R7, `60_exceptions.md` R226): the environment's choice among several pending
enabled events, at the n-th draw. Left open by the spec; nothing is known of it (log 2). -/
opaque Config.arb : Nat → Nat

/-- The byte a register that the RESET event leaves UNDEF holds, at the n-th draw (`10_state.md` R41).
Nothing is known of it (log 7). -/
opaque Config.undefByte : Nat → Byte

/-- The 9-bit value OUTLEN holds after the RESET event leaves it UNDEF, at the n-th draw (log 7). -/
opaque Config.undefCount : Nat → Count9

end Sys2Proof
end

