-- ==== Sys2Proof/Machine/Codes.lean ====
section
/-! DEFINITION. The enumerations of the spec and their numeric codes (`10_state.md` R20,
`30_encoding.md` R98, R100, `60_exceptions.md` R220). -/

namespace Sys2Proof

/-- PST, the parser state (`10_state.md` R21). -/
inductive Pst
  | idle
  | len
  | body
  deriving DecidableEq, Repr

/-- PHASE, the LinkPhase (`10_state.md` R25). -/
inductive Phase
  | readingFrame
  | awaitingAck
  | writingMessage
  | writingAck
  deriving DecidableEq, Repr

/-- FCAUSE, why FATAL is set (`10_state.md` R29). -/
inductive FCause
  | none
  | retryLimit
  | transport
  deriving DecidableEq, Repr

/-- `report.frame_kind` (`30_encoding.md` R100). -/
inductive FrameKind
  | none
  | data
  | ack
  | nack
  | can
  deriving DecidableEq, Repr

/-- `report.rpt` (`30_encoding.md` R100). -/
inductive Rpt
  | none
  | message
  | frameEvent
  | needsWrite
  | protocolError
  | fatal
  | transportError
  | sendRejected
  deriving DecidableEq, Repr

/-- The error codes (`60_exceptions.md` R220). -/
inductive Err
  | none
  | shortMessage
  | invalidChecksum
  | unknownType
  | unknownFrameType
  | transport
  | protocolViolation
  | retryLimit
  | sendLength
  deriving DecidableEq, Repr

/-- `report.msg_kind` (`30_encoding.md` R100). -/
inductive MsgKind
  | none
  | infoReceived
  deriving DecidableEq, Repr

/-- `report.needs_write` (`30_encoding.md` R100). -/
inductive NeedsWrite
  | none
  | ack
  | out
  deriving DecidableEq, Repr

/-- The 2-bit code of PST (`10_state.md` R20). -/
def Pst.code : Pst → BitVec 2
  | .idle => 0
  | .len => 1
  | .body => 2

/-- The 2-bit code of PHASE (`10_state.md` R20). -/
def Phase.code : Phase → BitVec 2
  | .readingFrame => 0
  | .awaitingAck => 1
  | .writingMessage => 2
  | .writingAck => 3

/-- The 2-bit code of FCAUSE (`10_state.md` R20). -/
def FCause.code : FCause → BitVec 2
  | .none => 0
  | .retryLimit => 1
  | .transport => 2

/-- The 3-bit code of `frame_kind` (`30_encoding.md` R100), the byte the HS rows match on (R102). -/
def FrameKind.code : FrameKind → BitVec 3
  | .none => 0
  | .data => 1
  | .ack => 2
  | .nack => 3
  | .can => 4

/-- The 3-bit code of `rpt` (`30_encoding.md` R100). -/
def Rpt.code : Rpt → BitVec 3
  | .none => 0
  | .message => 1
  | .frameEvent => 2
  | .needsWrite => 3
  | .protocolError => 4
  | .fatal => 5
  | .transportError => 6
  | .sendRejected => 7

/-- The 4-bit error code (`60_exceptions.md` R220). -/
def Err.code : Err → BitVec 4
  | .none => 0
  | .shortMessage => 1
  | .invalidChecksum => 2
  | .unknownType => 3
  | .unknownFrameType => 4
  | .transport => 5
  | .protocolViolation => 6
  | .retryLimit => 7
  | .sendLength => 8

/-- Which errors are fatal (`60_exceptions.md` R220, column "fatal"). -/
def Err.isFatal : Err → Bool
  | .transport => true
  | .retryLimit => true
  | _ => false

/-- The 2-bit code of `msg_kind` (`30_encoding.md` R100). -/
def MsgKind.code : MsgKind → BitVec 2
  | .none => 0
  | .infoReceived => 1

/-- The 2-bit code of `needs_write` (`30_encoding.md` R100). -/
def NeedsWrite.code : NeedsWrite → BitVec 2
  | .none => 0
  | .ack => 1
  | .out => 2

/-- The phases in which the block owes a write (`10_state.md` R25, R38). -/
def Phase.isWriting : Phase → Bool
  | .writingMessage => true
  | .writingAck => true
  | .readingFrame => false
  | .awaitingAck => false

end Sys2Proof
end

