-- ==== Sys2Proof/Machine/Checksum.lean ====
section
/-! DEFINITION. The checksum validator (`41_checksum.md`) and the outgoing frame it closes
(`44_frame_encoder.md` R190). -/

namespace Sys2Proof

/-- `fold_xor(init, s)` (`00_scope.md` R10). -/
def foldXor (init : Byte) : List Byte → Byte
  | [] => init
  | b :: bs => foldXor (init ^^^ b) bs

/-- `compute(length, bytes)` (`41_checksum.md` R130). -/
def checksum (length : Byte) (bytes : List Byte) : Byte :=
  foldXor (0xFF ^^^ length) bytes

/-- `verify(length, bytes, expected)` (`41_checksum.md` R131). -/
def verifyChecksum (length : Byte) (bytes : List Byte) (expected : Byte) : Bool :=
  checksum length bytes == expected

/-- The length byte of the Data frame that carries a message of `n` bytes: it counts TYPE, payload and
CHECKSUM (`44_frame_encoder.md` R190). -/
def lengthByte (m : List Byte) : Byte :=
  BitVec.ofNat 8 (m.length + 1)

/-- `encode(m)`: tag, length byte, message, checksum (`44_frame_encoder.md` R190). -/
def encodeFrame (m : List Byte) : List Byte :=
  0x01 :: lengthByte m :: (m ++ [checksum (lengthByte m) m])

/-- The legal lengths of a message to send (`44_frame_encoder.md` R191). -/
def legalLength (m : List Byte) : Bool :=
  1 ≤ m.length && m.length ≤ 254

/-- The lengths a send request can have and the block refuses (`45_engine.md` R211). -/
def refusedLength (m : List Byte) : Bool :=
  m.length == 0 || m.length == 255

/-- The frame-type tags of the format FT (`30_encoding.md` R83). -/
def isFrameTag (b : Byte) : Bool :=
  b == 0x01 || b == 0x06 || b == 0x15 || b == 0x18

end Sys2Proof
end

