-- ==== Sys2Proof/Syntax.lean ====
section
/-! DEFINITION. The syntax: the formats of the opcode table, the input events, and `Instr` with one
constructor per row of `spec/opcode_table.json` (`30_encoding.md` R98, R102). -/

namespace Sys2Proof

/-- The formats of the opcode table (`30_encoding.md` R102). -/
inductive Format
  | ft
  | lenb
  | bodyb
  | mt
  | rq
  | rs
  | au
  | ir
  | hs
  | ev
  | txf
  deriving DecidableEq, Repr

/-- The argument of an input event (`30_encoding.md` R98, column "argument"). -/
inductive EventArg
  | none
  | config (cfg : Cfg)
  | byte (b : Byte)
  | message (m : List Byte)
  deriving DecidableEq, Repr

/-- What a decoder is shown: bytes (a received byte, the remaining bytes of MSG, a frame-kind code, a
transmitted byte string), or an input event as its 3-bit code and its argument. -/
inductive Input
  | bytes (bs : List Byte)
  | event (code : BitVec 3) (arg : EventArg)
  deriving DecidableEq, Repr

/-- The input events (`30_encoding.md` R98). -/
inductive Event
  | reset (cfg : Cfg)
  | rxByte (b : Byte)
  | send (m : List Byte)
  | txDone
  | timeout
  | xportErr
  deriving DecidableEq, Repr

/-- The three events that are taken and do nothing while FATAL = 1 (`60_exceptions.md` R236). -/
inductive FatalEvent
  | txDone
  | timeout
  | xportErr
  deriving DecidableEq, Repr

/-- One constructor per row of `spec/opcode_table.json`, in the table's order. -/
inductive Instr
  -- FT, the frame-type tag
  | sof
  | ack
  | nack
  | can
  | ftUnknown (b : Byte)
  -- LENB, the length byte
  | lenNonzero (b : Byte)
  | lenZero
  -- BODYB, a body byte
  | bodyByte (b : Byte)
  | checksumOk (b : Byte)
  | checksumBad (b : Byte)
  -- MT, RQ, RS, AU, IR: the levels of the message decoder
  | request
  | response
  | mtUnknown (t : Byte)
  | applicationUpdate
  | rqUnknown (f : Byte)
  | rsUnknown (r : Byte)
  | infoReceived
  | auUnknown (t : Byte)
  | infoReceivedOperands (nodeId : Byte) (rest : List Byte)
  | shortMessage
  -- HS, the handshake controller's dispatch on a completed frame
  | dataInReadingFrame
  | ackInReadingFrame
  | nackInReadingFrame
  | canInReadingFrame
  | ackInAwaitingAck
  | nackInAwaitingAck
  | canInAwaitingAck
  | retryLimit (k : FrameKind)
  | dataInAwaitingAck
  | dataInAwaitingAckLimit
  | nonFrame
  -- EV, the input events
  | reset (cfg : Cfg)
  | rxByte (b : Byte)
  | send (m : List Byte)
  | sendBadLength (m : List Byte)
  | txDoneWritingMessage
  | txDoneWritingAck
  | txDoneWritingAckRetransmit
  | txDoneSpurious
  | timeoutAwaitingAck
  | timeoutRetryLimit
  | timeoutStale
  | xportErr
  | anyEventWhileFatal (e : FatalEvent)
  -- TXF, the byte strings the block transmits
  | encodeData (m : List Byte)
  | encodeAck
  deriving DecidableEq, Repr

end Sys2Proof
end

