-- ==== Sys2Proof/WellFormed.lean ====
section
/-! DEFINITION. The check on an instruction's operands: each row's operand ranges in
`spec/opcode_table.json` under the baseline tables (`30_encoding.md` R102). -/

namespace Sys2Proof

/-- The operands are ones the row admits. The unknown-tag rows hold only tags their level's baseline
table does not list, LEN_NONZERO no zero, RETRY_LIMIT a Nack or Cancel frame (its TIMEOUT trigger is the
row TIMEOUT_RETRY_LIMIT), and the message lengths are those of `44_frame_encoder.md` R191. -/
def Instr.wellFormed : Instr → Bool
  | .sof => true
  | .ack => true
  | .nack => true
  | .can => true
  | .ftUnknown b => !isFrameTag b
  | .lenNonzero b => b != 0
  | .lenZero => true
  | .bodyByte _ => true
  | .checksumOk _ => true
  | .checksumBad _ => true
  | .request => true
  | .response => true
  | .mtUnknown t => (Rom.entry Rom.baseline.l0 t).isNone
  | .applicationUpdate => true
  | .rqUnknown f => (Rom.entry Rom.baseline.req f).isNone
  | .rsUnknown r => (Rom.entry Rom.baseline.rsp r).isNone
  | .infoReceived => true
  | .auUnknown t => (Rom.entry Rom.baseline.au t).isNone
  | .infoReceivedOperands _ rest => decide (rest.length ≤ 250)
  | .shortMessage => true
  | .dataInReadingFrame => true
  | .ackInReadingFrame => true
  | .nackInReadingFrame => true
  | .canInReadingFrame => true
  | .ackInAwaitingAck => true
  | .nackInAwaitingAck => true
  | .canInAwaitingAck => true
  | .retryLimit k => k == .nack || k == .can
  | .dataInAwaitingAck => true
  | .dataInAwaitingAckLimit => true
  | .nonFrame => true
  | .reset _ => true
  | .rxByte _ => true
  | .send m => legalLength m
  | .sendBadLength m => refusedLength m
  | .txDoneWritingMessage => true
  | .txDoneWritingAck => true
  | .txDoneWritingAckRetransmit => true
  | .txDoneSpurious => true
  | .timeoutAwaitingAck => true
  | .timeoutRetryLimit => true
  | .timeoutStale => true
  | .xportErr => true
  | .anyEventWhileFatal _ => true
  | .encodeData m => legalLength m
  | .encodeAck => true

end Sys2Proof
end

