-- ==== Sys2Proof/Decode.lean ====
section
/-! DEFINITION. The decoder and the encoder of the opcode table. The format of a byte is selected by the
state, never by its value (`30_encoding.md` R90, R102), so the decoder reads the state's context. It is
total and rejects by name. -/

namespace Sys2Proof

/-- What of the state selects a row (`30_encoding.md` R102): the format, the tables, and what the rows'
`when`, `cond`, `needs` and `PHASE` entries read. `n` is the number of bytes of MSG. -/
structure Ctx where
  fmt         : Format
  rom         : Rom
  len         : Byte
  cnt         : Byte
  csum        : Byte
  phase       : Phase
  retriesLeft : Bool
  rtxp        : Bool
  fatal       : Bool
  n           : Nat
  deriving DecidableEq, Repr

/-- Why the decoder gives no row. -/
inductive DecodeError
  /-- The format takes one byte and there is none. -/
  | noByte
  /-- The format takes one byte and there are more. -/
  | extraBytes
  /-- Bytes where an event is read, or an event where bytes are read. -/
  | wrongInput
  /-- In P_BODY with CNT >= LEN, which no reachable state has (`10_state.md` R42 (ii), U14). -/
  | bodyOverrun
  /-- The frame-kind codes 5 to 7 do not occur (U14). -/
  | unusedFrameKind
  /-- The handshake controller takes no frame in this phase, or FATAL = 1 (`43_handshake.md` R160). -/
  | notDispatched
  /-- The event codes 6 and 7 are unused (`30_encoding.md` R98). -/
  | unusedEventCode
  /-- An argument that the event of this code does not have (`30_encoding.md` R98). -/
  | wrongArgument
  /-- A message of more than 255 bytes is no argument of SEND (R98), one of more than 254 no MSG (R84). -/
  | messageTooLong
  /-- Bytes that are no frame the block transmits (`30_encoding.md` R91). -/
  | notTransmitted
  deriving DecidableEq, Repr

/-- The one byte a one-byte format reads. -/
def oneByte (bs : List Byte) (k : Byte → Except DecodeError Instr) : Except DecodeError Instr :=
  match bs with
  | [] => .error .noByte
  | [b] => k b
  | _ :: _ :: _ => .error .extraBytes

/-- Format FT, the frame-type tag map (`30_encoding.md` R83). -/
def decodeFt (b : Byte) : Instr :=
  if b = 0x01 then .sof
  else if b = 0x06 then .ack
  else if b = 0x15 then .nack
  else if b = 0x18 then .can
  else .ftUnknown b

/-- Format LENB (`40_frame_parser.md` R116, R117). -/
def decodeLenb (b : Byte) : Instr :=
  if b = 0 then .lenZero else .lenNonzero b

/-- Format BODYB (`40_frame_parser.md` R110, rows P_BODY). `CNT < LEN - 1` is read as `CNT + 1 < LEN`
in the naturals, so that no subtraction borrows (`41_checksum.md` R135). -/
def decodeBodyb (len cnt csum b : Byte) : Except DecodeError Instr :=
  if cnt.toNat + 1 < len.toNat then .ok (.bodyByte b)
  else if cnt.toNat + 1 = len.toNat then
    if b = csum then .ok (.checksumOk b) else .ok (.checksumBad b)
  else .error .bodyOverrun

/-- Format MT on the bytes of MSG, `n` of them: the length check precedes the lookup
(`42_message_decoder.md` R140, R150 (a)). -/
def decodeMt (rom : Rom) (n : Nat) (bs : List Byte) : Instr :=
  if n < 2 then .shortMessage
  else match bs with
    | [] => .shortMessage
    | t :: _ => match Rom.entry rom.l0 t with
      | some .request => .request
      | some .response => .response
      | none => .mtUnknown t

/-- Format RQ on the bytes that remain at the Request level (`42_message_decoder.md` R143, R144). -/
def decodeRq (rom : Rom) (bs : List Byte) : Instr :=
  match bs with
  | [] => .shortMessage
  | f :: _ => match Rom.entry rom.req f with
    | some .applicationUpdate => .applicationUpdate
    | none => .rqUnknown f

/-- Format RS on the bytes that remain at the Response level (`42_message_decoder.md` R147). -/
def decodeRs (rom : Rom) (bs : List Byte) : Instr :=
  match bs with
  | [] => .shortMessage
  | r :: _ => match Rom.entry rom.rsp r with
    | some k => nomatch k
    | none => .rsUnknown r

/-- Format AU on the bytes that remain at the ApplicationUpdate level (R145, R146). -/
def decodeAu (rom : Rom) (bs : List Byte) : Instr :=
  match bs with
  | [] => .shortMessage
  | t :: _ => match Rom.entry rom.au t with
    | some .infoReceived => .infoReceived
    | none => .auUnknown t

/-- Format IR on the bytes that remain at the leaf InfoReceived (`42_message_decoder.md` R148). -/
def decodeIr (bs : List Byte) : Except DecodeError Instr :=
  match bs with
  | [] => .ok .shortMessage
  | id :: rest => if rest.length ≤ 250 then .ok (.infoReceivedOperands id rest) else .error .messageTooLong

/-- The frame kind a code stands for (`30_encoding.md` R100). -/
def frameKindOfCode (c : Byte) : Option FrameKind :=
  if c = 0 then some .none
  else if c = 1 then some .data
  else if c = 2 then some .ack
  else if c = 3 then some .nack
  else if c = 4 then some .can
  else none

/-- Format HS: the row of a frame kind in a phase (`43_handshake.md` R160). -/
def decodeHs (phase : Phase) (retriesLeft : Bool) : FrameKind → Except DecodeError Instr
  | .none => match phase with
    | .readingFrame => .ok .nonFrame
    | .awaitingAck => .ok .nonFrame
    | .writingMessage => .error .notDispatched
    | .writingAck => .error .notDispatched
  | .data => match phase with
    | .readingFrame => .ok .dataInReadingFrame
    | .awaitingAck => .ok (if retriesLeft then .dataInAwaitingAck else .dataInAwaitingAckLimit)
    | .writingMessage => .error .notDispatched
    | .writingAck => .error .notDispatched
  | .ack => match phase with
    | .readingFrame => .ok .ackInReadingFrame
    | .awaitingAck => .ok .ackInAwaitingAck
    | .writingMessage => .error .notDispatched
    | .writingAck => .error .notDispatched
  | .nack => match phase with
    | .readingFrame => .ok .nackInReadingFrame
    | .awaitingAck => .ok (if retriesLeft then .nackInAwaitingAck else .retryLimit .nack)
    | .writingMessage => .error .notDispatched
    | .writingAck => .error .notDispatched
  | .can => match phase with
    | .readingFrame => .ok .canInReadingFrame
    | .awaitingAck => .ok (if retriesLeft then .canInAwaitingAck else .retryLimit .can)
    | .writingMessage => .error .notDispatched
    | .writingAck => .error .notDispatched

/-- The row of TX_DONE (`45_engine.md` R206). -/
def decodeTxDone (fatal : Bool) (phase : Phase) (rtxp : Bool) : Instr :=
  if fatal then .anyEventWhileFatal .txDone
  else match phase with
    | .writingMessage => .txDoneWritingMessage
    | .writingAck => if rtxp then .txDoneWritingAckRetransmit else .txDoneWritingAck
    | .readingFrame => .txDoneSpurious
    | .awaitingAck => .txDoneSpurious

/-- The row of TIMEOUT (`45_engine.md` R207). -/
def decodeTimeout (fatal : Bool) (phase : Phase) (retriesLeft : Bool) : Instr :=
  if fatal then .anyEventWhileFatal .timeout
  else match phase with
    | .awaitingAck => if retriesLeft then .timeoutAwaitingAck else .timeoutRetryLimit
    | .readingFrame => .timeoutStale
    | .writingMessage => .timeoutStale
    | .writingAck => .timeoutStale

/-- The row of SEND by the length of its message (`45_engine.md` R210, R211). -/
def decodeSend (m : List Byte) : Except DecodeError Instr :=
  if legalLength m then .ok (.send m)
  else if refusedLength m then .ok (.sendBadLength m)
  else .error .messageTooLong

/-- An event code with an argument, as an event (`30_encoding.md` R98). -/
def eventOf (code : BitVec 3) (arg : EventArg) : Except DecodeError Event :=
  if code = 0 then
    match arg with
    | .config cfg => .ok (.reset cfg)
    | _ => .error .wrongArgument
  else if code = 1 then
    match arg with
    | .byte b => .ok (.rxByte b)
    | _ => .error .wrongArgument
  else if code = 2 then
    match arg with
    | .message m => .ok (.send m)
    | _ => .error .wrongArgument
  else if code = 3 then
    match arg with
    | .none => .ok .txDone
    | _ => .error .wrongArgument
  else if code = 4 then
    match arg with
    | .none => .ok .timeout
    | _ => .error .wrongArgument
  else if code = 5 then
    match arg with
    | .none => .ok .xportErr
    | _ => .error .wrongArgument
  else .error .unusedEventCode

/-- The event's code and argument (`30_encoding.md` R98): the inverse of `eventOf`. -/
def Event.toInput : Event → Input
  | .reset cfg => .event 0 (.config cfg)
  | .rxByte b => .event 1 (.byte b)
  | .send m => .event 2 (.message m)
  | .txDone => .event 3 .none
  | .timeout => .event 4 .none
  | .xportErr => .event 5 .none

/-- Format EV: the row of an event in the state (`45_engine.md` R203 to R212). -/
def decodeEvent (c : Ctx) : Event → Except DecodeError Instr
  | .reset cfg => .ok (.reset cfg)
  | .rxByte b => .ok (.rxByte b)
  | .send m => decodeSend m
  | .txDone => .ok (decodeTxDone c.fatal c.phase c.rtxp)
  | .timeout => .ok (decodeTimeout c.fatal c.phase c.retriesLeft)
  | .xportErr => .ok (if c.fatal then .anyEventWhileFatal .xportErr else .xportErr)

/-- Format TXF: the two byte strings the block transmits (`30_encoding.md` R91). -/
def decodeTxf (bs : List Byte) : Except DecodeError Instr :=
  match bs with
  | [] => .error .noByte
  | [b] => if b = 0x06 then .ok .encodeAck else .error .notTransmitted
  | tag :: l :: body =>
    if tag = 0x01 ∧ 2 ≤ l.toNat ∧ body.length = l.toNat ∧
        body.getLast? = some (checksum l body.dropLast) then
      .ok (.encodeData body.dropLast)
    else .error .notTransmitted

/-- The row that the context's format reads from an input (`30_encoding.md` R102). -/
def decode (c : Ctx) : Input → Except DecodeError Instr
  | .event code arg =>
    match c.fmt with
    | .ev => match eventOf code arg with
      | .ok e => decodeEvent c e
      | .error r => .error r
    | _ => .error .wrongInput
  | .bytes bs =>
    match c.fmt with
    | .ft => oneByte bs fun b => .ok (decodeFt b)
    | .lenb => oneByte bs fun b => .ok (decodeLenb b)
    | .bodyb => oneByte bs fun b => decodeBodyb c.len c.cnt c.csum b
    | .mt => .ok (decodeMt c.rom c.n bs)
    | .rq => .ok (decodeRq c.rom bs)
    | .rs => .ok (decodeRs c.rom bs)
    | .au => .ok (decodeAu c.rom bs)
    | .ir => decodeIr bs
    | .hs => oneByte bs fun b => match frameKindOfCode b with
      | some k => if c.fatal then .error .notDispatched else decodeHs c.phase c.retriesLeft k
      | none => .error .unusedFrameKind
    | .txf => decodeTxf bs
    | .ev => .error .wrongInput

/-- The format of a row in `spec/opcode_table.json`. -/
def Instr.format : Instr → Format
  | .sof => .ft
  | .ack => .ft
  | .nack => .ft
  | .can => .ft
  | .ftUnknown _ => .ft
  | .lenNonzero _ => .lenb
  | .lenZero => .lenb
  | .bodyByte _ => .bodyb
  | .checksumOk _ => .bodyb
  | .checksumBad _ => .bodyb
  | .request => .mt
  | .response => .mt
  | .mtUnknown _ => .mt
  | .applicationUpdate => .rq
  | .rqUnknown _ => .rq
  | .rsUnknown _ => .rs
  | .infoReceived => .au
  | .auUnknown _ => .au
  | .infoReceivedOperands _ _ => .ir
  | .shortMessage => .mt
  | .dataInReadingFrame => .hs
  | .ackInReadingFrame => .hs
  | .nackInReadingFrame => .hs
  | .canInReadingFrame => .hs
  | .ackInAwaitingAck => .hs
  | .nackInAwaitingAck => .hs
  | .canInAwaitingAck => .hs
  | .retryLimit _ => .hs
  | .dataInAwaitingAck => .hs
  | .dataInAwaitingAckLimit => .hs
  | .nonFrame => .hs
  | .reset _ => .ev
  | .rxByte _ => .ev
  | .send _ => .ev
  | .sendBadLength _ => .ev
  | .txDoneWritingMessage => .ev
  | .txDoneWritingAck => .ev
  | .txDoneWritingAckRetransmit => .ev
  | .txDoneSpurious => .ev
  | .timeoutAwaitingAck => .ev
  | .timeoutRetryLimit => .ev
  | .timeoutStale => .ev
  | .xportErr => .ev
  | .anyEventWhileFatal _ => .ev
  | .encodeData _ => .txf
  | .encodeAck => .txf

/-- The byte form of a frame kind, which the HS rows match on. -/
def FrameKind.byte (k : FrameKind) : Byte :=
  k.code.setWidth 8

/-- The word of a row (`spec/opcode_table.json`, `match` and operands), under the baseline tables. The
row SHORT_MESSAGE is the level that finds no byte: no byte is its word (log 17). -/
def Instr.encode : Instr → Input
  | .sof => .bytes [0x01]
  | .ack => .bytes [0x06]
  | .nack => .bytes [0x15]
  | .can => .bytes [0x18]
  | .ftUnknown b => .bytes [b]
  | .lenNonzero b => .bytes [b]
  | .lenZero => .bytes [0x00]
  | .bodyByte b => .bytes [b]
  | .checksumOk b => .bytes [b]
  | .checksumBad b => .bytes [b]
  | .request => .bytes [0x00]
  | .response => .bytes [0x01]
  | .mtUnknown t => .bytes [t]
  | .applicationUpdate => .bytes [0x49]
  | .rqUnknown f => .bytes [f]
  | .rsUnknown r => .bytes [r]
  | .infoReceived => .bytes [0x84]
  | .auUnknown t => .bytes [t]
  | .infoReceivedOperands id rest => .bytes (id :: rest)
  | .shortMessage => .bytes []
  | .dataInReadingFrame => .bytes [FrameKind.byte .data]
  | .ackInReadingFrame => .bytes [FrameKind.byte .ack]
  | .nackInReadingFrame => .bytes [FrameKind.byte .nack]
  | .canInReadingFrame => .bytes [FrameKind.byte .can]
  | .ackInAwaitingAck => .bytes [FrameKind.byte .ack]
  | .nackInAwaitingAck => .bytes [FrameKind.byte .nack]
  | .canInAwaitingAck => .bytes [FrameKind.byte .can]
  | .retryLimit k => .bytes [FrameKind.byte k]
  | .dataInAwaitingAck => .bytes [FrameKind.byte .data]
  | .dataInAwaitingAckLimit => .bytes [FrameKind.byte .data]
  | .nonFrame => .bytes [FrameKind.byte .none]
  | .reset cfg => .event 0 (.config cfg)
  | .rxByte b => .event 1 (.byte b)
  | .send m => .event 2 (.message m)
  | .sendBadLength m => .event 2 (.message m)
  | .txDoneWritingMessage => .event 3 .none
  | .txDoneWritingAck => .event 3 .none
  | .txDoneWritingAckRetransmit => .event 3 .none
  | .txDoneSpurious => .event 3 .none
  | .timeoutAwaitingAck => .event 4 .none
  | .timeoutRetryLimit => .event 4 .none
  | .timeoutStale => .event 4 .none
  | .xportErr => .event 5 .none
  | .anyEventWhileFatal .txDone => .event 3 .none
  | .anyEventWhileFatal .timeout => .event 4 .none
  | .anyEventWhileFatal .xportErr => .event 5 .none
  | .encodeData m => .bytes (encodeFrame m)
  | .encodeAck => .bytes [0x06]

/-- The row's condition on the state beside its format: the entries `when`, `cond`, `needs` and `PHASE`
of `spec/opcode_table.json`. The rows of one format and word exclude each other (`30_encoding.md` R102). -/
def Ctx.admits (c : Ctx) : Instr → Bool
  | .sof => true
  | .ack => true
  | .nack => true
  | .can => true
  | .ftUnknown _ => true
  | .lenNonzero _ => true
  | .lenZero => true
  | .bodyByte _ => decide (c.cnt.toNat + 1 < c.len.toNat)
  | .checksumOk b => decide (c.cnt.toNat + 1 = c.len.toNat) && b == c.csum
  | .checksumBad b => decide (c.cnt.toNat + 1 = c.len.toNat) && b != c.csum
  | .request => decide (2 ≤ c.n)
  | .response => decide (2 ≤ c.n)
  | .mtUnknown _ => decide (2 ≤ c.n)
  | .applicationUpdate => true
  | .rqUnknown _ => true
  | .rsUnknown _ => true
  | .infoReceived => true
  | .auUnknown _ => true
  | .infoReceivedOperands _ _ => true
  | .shortMessage => true
  | .dataInReadingFrame => !c.fatal && c.phase == .readingFrame
  | .ackInReadingFrame => !c.fatal && c.phase == .readingFrame
  | .nackInReadingFrame => !c.fatal && c.phase == .readingFrame
  | .canInReadingFrame => !c.fatal && c.phase == .readingFrame
  | .ackInAwaitingAck => !c.fatal && c.phase == .awaitingAck
  | .nackInAwaitingAck => !c.fatal && c.phase == .awaitingAck && c.retriesLeft
  | .canInAwaitingAck => !c.fatal && c.phase == .awaitingAck && c.retriesLeft
  | .retryLimit _ => !c.fatal && c.phase == .awaitingAck && !c.retriesLeft
  | .dataInAwaitingAck => !c.fatal && c.phase == .awaitingAck && c.retriesLeft
  | .dataInAwaitingAckLimit => !c.fatal && c.phase == .awaitingAck && !c.retriesLeft
  | .nonFrame => !c.fatal && (c.phase == .readingFrame || c.phase == .awaitingAck)
  | .reset _ => true
  | .rxByte _ => true
  | .send _ => true
  | .sendBadLength _ => true
  | .txDoneWritingMessage => !c.fatal && c.phase == .writingMessage
  | .txDoneWritingAck => !c.fatal && c.phase == .writingAck && !c.rtxp
  | .txDoneWritingAckRetransmit => !c.fatal && c.phase == .writingAck && c.rtxp
  | .txDoneSpurious => !c.fatal && (c.phase == .readingFrame || c.phase == .awaitingAck)
  | .timeoutAwaitingAck => !c.fatal && c.phase == .awaitingAck && c.retriesLeft
  | .timeoutRetryLimit => !c.fatal && c.phase == .awaitingAck && !c.retriesLeft
  | .timeoutStale => !c.fatal && c.phase != .awaitingAck
  | .xportErr => !c.fatal
  | .anyEventWhileFatal _ => c.fatal
  | .encodeData _ => true
  | .encodeAck => true

/-- The context of the state right after reset with the baseline tables, for a format. -/
def Ctx.afterReset (f : Format) : Ctx where
  fmt := f
  rom := Rom.baseline
  len := 0
  cnt := 0
  csum := 0
  phase := .readingFrame
  retriesLeft := true
  rtxp := false
  fatal := false
  n := 0

/-- The event a table word offers to the block (log 15). The table's words do not say their format, and
only the formats FT and EV can be offered from outside. A word that is a frame-type tag, or is no event
code, is a received byte; any other is an event code, whose argument (the operand bits above the word)
is all zeros. -/
def tableEvent (w : Nat) : Option Event :=
  if 256 ≤ w then none
  else if isFrameTag (BitVec.ofNat 8 w) then some (.rxByte (BitVec.ofNat 8 w))
  else if w = 0 then some (.reset { maxRetry := 0, ackDeadline := 0 })
  else if w = 2 then some (.send [])
  else if w = 3 then some .txDone
  else if w = 4 then some .timeout
  else if w = 5 then some .xportErr
  else some (.rxByte (BitVec.ofNat 8 w))

/-- The row the decoder gives for a word of the opcode table as the first instruction after reset. -/
def decodeTableWord (nbits w : Nat) : Option Instr :=
  if 8 < nbits then none
  else match tableEvent w with
    | none => none
    | some (.rxByte b) => (decode (Ctx.afterReset .ft) (.bytes [b])).toOption
    | some e => (decode (Ctx.afterReset .ev) e.toInput).toOption

end Sys2Proof
end

