-- ==== Sys2Proof/Machine/State.lean ====
section
/-! DEFINITION. The state of the block (`10_state.md` R20), its configuration and tables (`00_scope.md`
R7), its output record (`30_encoding.md` R100), the life of the message view (`70_reset_and_hazards.md`
R262), the ports its environment fills (`10_state.md` R40), the reasons a step can stop, and the state
after reset (`10_state.md` R41). -/

namespace Sys2Proof.Machine

/-- A byte buffer as the list of the cells that hold a value, addresses strictly rising. A cell it does
not list holds no value (`00_scope.md` R13, log 11). -/
abbrev Memory := List Host.Cell

/-- The report record (`30_encoding.md` R100). The defaults are the spec's. -/
structure Report where
  rpt        : Rpt := .none
  frameKind  : FrameKind := .none
  consumed   : Count9 := 0
  err        : Err := .none
  errTag     : Byte := 0
  remOff     : Byte := 0
  remLen     : Byte := 0
  msgKind    : MsgKind := .none
  nodeId     : Byte := 0
  restOff    : Byte := 0
  restLen    : Byte := 0
  violation  : Bool := false
  needsWrite : NeedsWrite := .none
  deriving DecidableEq, Repr

/-- What waits at the block's producers (`10_state.md` R40, `45_engine.md` R200): the MODEL's own field,
since the host's step takes no event (log 1). Lists are oldest first. -/
structure Ports where
  /-- Bytes the transport has received and the block has not consumed (R40 (a)). -/
  rx       : List Byte := []
  /-- Messages waiting at the caller (`70_reset_and_hazards.md` R261). -/
  send     : List (List Byte) := []
  /-- RESET(Config) requests waiting at the caller. -/
  reset    : List Cfg := []
  /-- Write completions not yet taken. -/
  txDone   : Nat := 0
  /-- Deadline expiries not yet taken. -/
  timeout  : Nat := 0
  /-- Transport errors not yet taken. -/
  xportErr : Nat := 0
  deriving DecidableEq, Repr

/-- A view that a report gave the caller (`00_scope.md` R9, `30_encoding.md` R100): `len` cells of RXBUF from
`off` on. `serial` says which report gave it, so that a view of an earlier report is not taken for one of
the last (the model's own name for it, log 26). -/
structure View where
  serial : Nat
  off    : Byte
  len    : Byte
  deriving DecidableEq, Repr

/-- The whole state. -/
structure State where
  /-- PST (`10_state.md` R21). -/
  pst    : Pst
  /-- LEN (R22). -/
  len    : Byte
  /-- CNT (R23). -/
  cnt    : Byte
  /-- CSUM (R24). -/
  csum   : Byte
  /-- RXBUF, 255 cells (R30). -/
  rxbuf  : Memory
  /-- PHASE (R25). -/
  phase  : Phase
  /-- RETRY (R26). -/
  retry  : Byte
  /-- RTXP (R27). -/
  rtxp   : Bool
  /-- FATAL (R28). -/
  fatal  : Bool
  /-- FCAUSE (R29). -/
  fcause : FCause
  /-- OUTBUF, 257 cells (R36). -/
  outbuf : Memory
  /-- OUTLEN (R32). -/
  outlen : Count9
  /-- The configuration latched at reset (`00_scope.md` R7, R37). -/
  cfg    : Cfg
  /-- The four dispatch ROMs (R39), which no event writes (`20_memory.md` R72). -/
  rom    : Rom
  /-- The report of the last step (`30_encoding.md` R100). -/
  report : Report
  /-- The live view: the one `rem_*` or `rest_*` gave in the report of the last valid Data frame, `none`
  while no view is live (`20_memory.md` R67, `70_reset_and_hazards.md` R262). -/
  view   : Option View
  /-- How many valid Data frames have been reported, the serial of the last report that could give a view:
  the model's own field (log 26). -/
  frames : Nat
  /-- What waits at the producers: the model's own field. -/
  ports  : Ports
  /-- How many free values have been drawn: the model's own field (logs 2 and 7). -/
  draws  : Nat
  deriving DecidableEq, Repr

/-- Why the machine stops. No step from a state that meets the invariant of `Sys2Proof/Safety.lean` does. -/
inductive Fault
  /-- A buffer cell that holds no value was read: the spec says a model must refuse to answer
  (`00_scope.md` R13). Raised by the reads of RXBUF and OUTBUF. Safe: the model stops. -/
  | undefinedCell (index : Nat)
  /-- A buffer cell that does not exist was written: RXBUF ends at 254, OUTBUF at 256 (`10_state.md` R30,
  R36; `20_memory.md` R62 says no rule does it). Raised by the writes of the buffers. Safe. -/
  | noSuchCell (index : Nat)
  /-- MSG was read with LEN = 0, where `LEN - 1` is never computed (`10_state.md` R31). Safe. -/
  | noMessage
  /-- The caller read by a view that is not live: its life has ended, or no report gave it
  (`70_reset_and_hazards.md` R262, `20_memory.md` R67, U3). Raised by `State.readView` only, never by a
  step. Safe. -/
  | viewExpired
  deriving DecidableEq, Repr

/-- Why an instruction or an input has no meaning. -/
inductive Refusal
  /-- An instruction that the model gives no meaning yet. No arm raises it. Safe. -/
  | notModelled (mnemonic : String)
  /-- A row of the opcode table executed in a state its condition excludes: another row of the same word
  applies there, or none (`30_encoding.md` R102). The decoder never gives it. Safe. -/
  | notSelected
  /-- An input no row is for, by the decoder's reason. Raised by `step` and by RX_BYTE. Safe. -/
  | undecodable (reason : DecodeError)
  deriving DecidableEq, Repr

/-- The outcome of an instruction. -/
abbrev Result := Host.Outcome State Fault Refusal

/-- The configuration of `State.reset`: the suggested retry limit and the reference deadline of
`00_scope.md` R7 (logs 8 and 9). A RESET event replaces it by its operand. -/
def Cfg.suggested : Cfg where
  maxRetry := 3
  ackDeadline := 100

/-- The machine after reset (`10_state.md` R41, `70_reset_and_hazards.md` R250). LEN, CNT, CSUM and OUTLEN,
UNDEF in the spec, hold 0 (DESIGN CHOICE, log 6); nothing waits at a port (log 16); no report has given a
view, and the count of reports starts at 0 (DESIGN CHOICE, log 26). -/
def State.reset : State where
  pst := .idle
  len := 0
  cnt := 0
  csum := 0
  rxbuf := []
  phase := .readingFrame
  retry := 0
  rtxp := false
  fatal := false
  fcause := .none
  outbuf := []
  outlen := 0
  cfg := Cfg.suggested
  rom := Rom.baseline
  report := {}
  view := none
  frames := 0
  ports := {}
  draws := 0

end Sys2Proof.Machine
end

