-- ==== Sys2Proof/Machine/Flags.lean ====
section
/-! DEFINITION. The status outputs and the conditions the rules test, each a function of the state
(`10_state.md` R38, `45_engine.md` R203 to R208, `43_handshake.md` R169). The block has no arithmetic
condition codes (`10_state.md` R34). -/

namespace Sys2Proof.Machine

/-- `rx_ready`: RX_BYTE is enabled (`10_state.md` R38, `45_engine.md` R203). -/
def State.rxReady (s : State) : Bool :=
  !s.fatal && (s.phase == .readingFrame || s.phase == .awaitingAck)

/-- `send_ready`: SEND is enabled (`10_state.md` R38, `45_engine.md` R205). -/
def State.sendReady (s : State) : Bool :=
  !s.fatal && s.phase == .readingFrame && s.pst == .idle

/-- `tx_valid` (`10_state.md` R38). -/
def State.txValid (s : State) : Bool :=
  !s.fatal && s.phase.isWriting

/-- `awaiting` (`10_state.md` R38). -/
def State.awaiting (s : State) : Bool :=
  !s.fatal && s.phase == .awaitingAck

/-- `RETRY < MAX_RETRY`, unsigned (`41_checksum.md` R135). Its negation is the spec's
`RETRY = MAX_RETRY`, which `43_handshake.md` R169 reads as "not (RETRY < MAX_RETRY)". -/
def State.retriesLeft (s : State) : Bool :=
  decide (s.retry.toNat < s.cfg.maxRetry.toNat)

/-- The handshake controller takes a completed frame of this kind in this phase: no rule of it applies
while FATAL = 1 (`43_handshake.md` R160). The frame kind is the one the parser set in this step's report
(`30_encoding.md` R102). -/
def State.takesFrame (s : State) (k : FrameKind) (p : Phase) : Bool :=
  !s.fatal && s.phase == p && s.report.frameKind == k

/-- An event rule of the handshake controller applies: FATAL = 0 and the phase is `p`. -/
def State.inPhase (s : State) (p : Phase) : Bool :=
  !s.fatal && s.phase == p

/-- `phase`, 2 bits (`10_state.md` R38). -/
def State.phaseOut (s : State) : BitVec 2 := s.phase.code

/-- `fcause`, 2 bits (`10_state.md` R38). -/
def State.fcauseOut (s : State) : BitVec 2 := s.fcause.code

/-- The run is quiescent: nothing is owed and no frame is half received (`45_engine.md` R215). -/
def State.quiescent (s : State) : Bool :=
  !s.fatal && s.phase == .readingFrame && s.pst == .idle && !s.rtxp

end Sys2Proof.Machine
end

