-- ==== Sys2Proof/Machine/Ops.lean ====
section
/-! DEFINITION. The named operations over the buffers, the report and the registers that the meanings
share: buffer access, the start of a step, raising an error, entering the fatal condition ("trap entry",
`60_exceptions.md` R233) and leaving it by reset (R234), holding an event, scheduling a write. -/

namespace Sys2Proof.Machine

/-! ### Buffers (`20_memory.md` R62, R63) -/

/-- The number of cells of RXBUF (`10_state.md` R30). -/
def rxbufSize : Nat := 255

/-- The number of cells of OUTBUF (`10_state.md` R36). -/
def outbufSize : Nat := 257

/-- `MemRead` of one cell: its value, or `none` if it holds no value (`00_scope.md` R11, R13). -/
def Memory.read : Memory → Nat → Option Byte
  | [], _ => none
  | (k, v) :: cells, a => if k = a then some v else Memory.read cells a

/-- `MemWrite` of one cell (`00_scope.md` R11), keeping the addresses strictly rising. -/
def Memory.write : Memory → Nat → Byte → Memory
  | [], a, b => [(a, b)]
  | (k, v) :: cells, a, b =>
    if a < k then (a, b) :: (k, v) :: cells
    else if a = k then (a, b) :: cells
    else (k, v) :: Memory.write cells a b

/-- The `n` cells from `off` on, or `none` if one of them holds no value: the view `(off, n)`
(`00_scope.md` R9). -/
def Memory.view (m : Memory) (off : Nat) : Nat → Option (List Byte)
  | 0 => some []
  | n + 1 => match Memory.read m off, Memory.view m (off + 1) n with
    | some b, some bs => some (b :: bs)
    | _, _ => none

/-- Writes a byte sequence to the cells from `off` on. -/
def Memory.writeList (m : Memory) (off : Nat) : List Byte → Memory
  | [] => m
  | b :: bs => Memory.writeList (Memory.write m off b) (off + 1) bs

/-- The cells' addresses rise strictly from `lo` on. -/
def Memory.risingFrom : Nat → Memory → Bool
  | _, [] => true
  | lo, (k, _) :: cells => decide (lo ≤ k) && Memory.risingFrom (k + 1) cells

/-- The canonical form of a buffer of `size` cells: addresses strictly rising, all of them cells of the
buffer. Every entry differs from an unlisted cell, which holds no value. -/
def Memory.wf (size : Nat) (m : Memory) : Bool :=
  Memory.risingFrom 0 m && m.all fun c => decide (c.1 < size)

/-- Continues with a value, or stops with the fault that kept it from being read or written. -/
def orFault {α : Type} (x : Except Fault α) (k : α → Result) : Result :=
  match x with
  | .ok v => k v
  | .error f => .fault f

/-- `RXBUF[i] <- b` (`10_state.md` R30). -/
def State.writeRx (s : State) (i : Nat) (b : Byte) : Except Fault State :=
  if i < rxbufSize then .ok { s with rxbuf := Memory.write s.rxbuf i b }
  else .error (.noSuchCell i)

/-- OUTBUF and OUTLEN take an encoded frame; cells above it keep what they held
(`44_frame_encoder.md` R190, `20_memory.md` R65). -/
def State.writeOut (s : State) (frame : List Byte) : Except Fault State :=
  if frame.length ≤ outbufSize then
    .ok { s with outbuf := Memory.writeList s.outbuf 0 frame, outlen := BitVec.ofNat 9 frame.length }
  else .error (.noSuchCell outbufSize)

/-- The view `(off, n)` of a buffer; a cell that holds no value faults (`00_scope.md` R13). -/
def viewOrFault (m : Memory) (off n : Nat) : Except Fault (List Byte) :=
  match Memory.view m off n with
  | some bs => .ok bs
  | none => .error (.undefinedCell off)

/-! ### The start of a step -/

/-- A step begins with every report field at its default (`30_encoding.md` R100). -/
def State.begin (s : State) : State :=
  { s with report := {} }

/-- An enabled RX_BYTE step begins: it ends the life of every view (`70_reset_and_hazards.md` R262). -/
def State.beginRx (s : State) : State :=
  { s with report := {}, view := none }

/-! ### Errors and the fatal condition -/

/-- `raise E` with `report.rpt <- r` (`00_scope.md` R11): the report carries the error. A non-fatal error
changes nothing else (`60_exceptions.md` R232). -/
def State.raise (s : State) (e : Err) (r : Rpt) : State :=
  { s with report := { s.report with err := e, rpt := r } }

/-- Entering the fatal condition, the block's trap entry: FATAL and FCAUSE are set, the report carries
the error, and nothing else changes (`60_exceptions.md` R233). -/
def State.enterFatal (s : State) (c : FCause) (e : Err) (r : Rpt) : State :=
  { s with fatal := true, fcause := c, report := { s.report with err := e, rpt := r } }

/-- The RESET event, the only return from the fatal condition (`60_exceptions.md` R234,
`70_reset_and_hazards.md` R250): the state of `10_state.md` R41 with the operand latched. The registers
the spec leaves UNDEF take free values (log 7). The tables stay (`20_memory.md` R72), and so does what
waits in the environment (`70_reset_and_hazards.md` R252). Every view is invalid, and the count of reports
goes on, so that no later view is taken for one of this connection (log 26). -/
def State.reopen (s : State) (cfg : Cfg) : State where
  pst := .idle
  len := Config.undefByte s.draws
  cnt := Config.undefByte (s.draws + 1)
  csum := Config.undefByte (s.draws + 2)
  rxbuf := []
  phase := .readingFrame
  retry := 0
  rtxp := false
  fatal := false
  fcause := .none
  outbuf := []
  outlen := Config.undefCount s.draws
  cfg := cfg
  rom := s.rom
  report := {}
  view := none
  frames := s.frames
  ports := s.ports
  draws := s.draws + 3

/-! ### Events that wait -/

/-- A byte the block does not accept stays with the transport, first in line (`45_engine.md` R202, R203). -/
def State.holdByte (s : State) (b : Byte) : State :=
  { s with ports := { s.ports with rx := b :: s.ports.rx } }

/-- A send request the block does not accept stays with the caller (`45_engine.md` R205). -/
def State.holdSend (s : State) (m : List Byte) : State :=
  { s with ports := { s.ports with send := m :: s.ports.send } }

/-! ### The report -/

/-- The frame this step completed and how many stream bytes it took (`30_encoding.md` R100). -/
def State.completeFrame (s : State) (k : FrameKind) (n : Count9) : State :=
  { s with report := { s.report with frameKind := k, consumed := n } }

/-- `report.consumed <- n`. -/
def State.consume (s : State) (n : Count9) : State :=
  { s with report := { s.report with consumed := n } }

/-- `report.err_tag <- b`. -/
def State.errTag (s : State) (b : Byte) : State :=
  { s with report := { s.report with errTag := b } }

/-- `report.rpt <- r`. -/
def State.setRpt (s : State) (r : Rpt) : State :=
  { s with report := { s.report with rpt := r } }

/-- `report.violation <- 1`. -/
def State.violate (s : State) : State :=
  { s with report := { s.report with violation := true } }

/-! ### Writes owed -/

/-- The acknowledgment is queued: `PHASE <- WritingAck; report.needs_write <- W_ACK`. -/
def State.queueAck (s : State) : State :=
  { s with phase := .writingAck, report := { s.report with needsWrite := .ack } }

/-- The frame in OUTBUF is queued: `PHASE <- WritingMessage; report.needs_write <- W_OUT`. -/
def State.queueOut (s : State) : State :=
  { s with phase := .writingMessage, report := { s.report with needsWrite := .out } }

/-- `RETRY <- RETRY + 1`, for a retransmission scheduled (`10_state.md` R26). -/
def State.countRetry (s : State) : State :=
  { s with retry := s.retry + 1 }

/-- A failure with no retransmission left: the retry limit is exceeded (`43_handshake.md` R169). -/
def State.exceedLimit (s : State) : State :=
  s.enterFatal .retryLimit .retryLimit .fatal

end Sys2Proof.Machine
end

