-- ==== Sys2Proof/Machine/Operands.lean ====
section
/-! DEFINITION. The operand forms: the message view, the lengths derived from LEN, the bytes presented to
the transport, the caller's read of a view, and the context the decoder reads (`30_encoding.md` R84, R85,
R102; `10_state.md` R31, R38). -/

namespace Sys2Proof.Machine

/-- `zext_9(LEN) + 2`: the stream bytes of the Data frame (`30_encoding.md` R84). -/
def frameBytes (len : Byte) : Count9 :=
  len.setWidth 9 + 2

/-- MSG, the view `RXBUF[0..LEN-1)` (`10_state.md` R31). -/
def State.message (s : State) : Except Fault (List Byte) :=
  if s.len = 0 then .error .noMessage
  else viewOrFault s.rxbuf 0 (s.len.toNat - 1)

/-- `tx_bytes` (`10_state.md` R38): `none` where it is meaningless (`tx_valid = 0`), a fault if OUTBUF
holds no value there. -/
def State.txBytes (s : State) : Option (Except Fault (List Byte)) :=
  if s.txValid then
    match s.phase with
    | .writingAck => some (.ok [0x06])
    | .writingMessage => some (viewOrFault s.outbuf 0 s.outlen.toNat)
    | .readingFrame => none
    | .awaitingAck => none
  else none

/-- The caller reads the bytes of a view a report gave it (`45_engine.md` R204). Reading is no step. Only the
live view is answered (`20_memory.md` R67): a view of an earlier report, or one that no report gave, is
refused even where its cells hold values (`00_scope.md` R13, `70_reset_and_hazards.md` R262, log 13). -/
def State.readView (s : State) (v : View) : Except Fault (List Byte) :=
  if s.view = some v then viewOrFault s.rxbuf v.off.toNat v.len.toNat else .error .viewExpired

/-- The context in which the decoder reads a format. -/
def State.ctx (s : State) (f : Format) : Ctx where
  fmt := f
  rom := s.rom
  len := s.len
  cnt := s.cnt
  csum := s.csum
  phase := s.phase
  retriesLeft := s.retriesLeft
  rtxp := s.rtxp
  fatal := s.fatal
  n := s.len.toNat - 1

end Sys2Proof.Machine
end

