-- ==== Sys2Proof/Machine/Decoder.lean ====
section
/-! DEFINITION. The message dispatcher (`42_message_decoder.md`): the decoder as a function of MSG and the
tables, and the meanings of the rows of the formats MT, RQ, RS, AU and IR. These rows run in the middle
of the step that completes a valid Data frame and write only the report (R151, log 25). -/

namespace Sys2Proof.Machine

/-- The result of `decode` (`42_message_decoder.md` R140). -/
inductive DecodeResult
  | message (kind : MsgKind) (nodeId : Byte) (restOff restLen : Nat)
  | shortMessage
  | unknownType (remOff remLen : Nat) (tag : Byte)
  deriving DecidableEq, Repr

/-- A row whose condition holds has its effect; elsewhere another row of the table applies
(`30_encoding.md` R102, log 5). -/
def whenSelected (c : Bool) (r : Result) : Result :=
  if c then r else .refused .notSelected

/-- `decode_info_received` (`42_message_decoder.md` R140, R148, R150 (d)). -/
def decodeInfoReceived (msg : List Byte) (off : Nat) : DecodeResult :=
  match msg[off]? with
  | none => .shortMessage
  | some id => .message .infoReceived id (off + 1) (msg.length - off - 1)

/-- `decode_app_update` (`42_message_decoder.md` R140, R145, R146, R150 (c)). -/
def decodeAppUpdate (rom : Rom) (msg : List Byte) (off : Nat) : DecodeResult :=
  match msg[off]? with
  | none => .shortMessage
  | some t => match Rom.entry rom.au t with
    | some .infoReceived => decodeInfoReceived msg (off + 1)
    | none => .unknownType off (msg.length - off) t

/-- `decode_request` (`42_message_decoder.md` R140, R143, R144, R150 (b)). -/
def decodeRequest (rom : Rom) (msg : List Byte) (off : Nat) : DecodeResult :=
  match msg[off]? with
  | none => .shortMessage
  | some f => match Rom.entry rom.req f with
    | some .applicationUpdate => decodeAppUpdate rom msg (off + 1)
    | none => .unknownType off (msg.length - off) f

/-- `decode_response` (`42_message_decoder.md` R140, R147, R150 (b)). -/
def decodeResponse (rom : Rom) (msg : List Byte) (off : Nat) : DecodeResult :=
  match msg[off]? with
  | none => .shortMessage
  | some r => match Rom.entry rom.rsp r with
    | some k => nomatch k
    | none => .unknownType off (msg.length - off) r

/-- `decode(MSG, n)` (`42_message_decoder.md` R140): the length check first, then the level Message. -/
def decodeMessage (rom : Rom) (msg : List Byte) : DecodeResult :=
  if msg.length < 2 then .shortMessage
  else match msg[0]? with
    | none => .shortMessage
    | some t => match Rom.entry rom.l0 t with
      | some .request => decodeRequest rom msg 1
      | some .response => decodeResponse rom msg 1
      | none => .unknownType 0 msg.length t

/-- From the result to the report (`42_message_decoder.md` R151). -/
def State.reportResult (s : State) : DecodeResult → State
  | .message k id ro rl =>
    { s with report := { s.report with
        rpt := .message, msgKind := k, nodeId := id,
        restOff := BitVec.ofNat 8 ro, restLen := BitVec.ofNat 8 rl } }
  | .shortMessage => s.raise .shortMessage .protocolError
  | .unknownType o l t =>
    { s with report := { s.report with
        rpt := .protocolError, err := .unknownType, errTag := t,
        remOff := BitVec.ofNat 8 o, remLen := BitVec.ofNat 8 l } }

/-- The view the result delivers: InfoReceived's `rest`, UnknownType's remainder, and none with ShortMessage
(`30_encoding.md` R100, `42_message_decoder.md` R151). -/
def DecodeResult.view (serial : Nat) : DecodeResult → Option View
  | .message _ _ ro rl => some { serial := serial, off := BitVec.ofNat 8 ro, len := BitVec.ofNat 8 rl }
  | .shortMessage => none
  | .unknownType o l _ => some { serial := serial, off := BitVec.ofNat 8 o, len := BitVec.ofNat 8 l }

/-- The report of this step gives the caller the view of its result, and that one only is live
(`70_reset_and_hazards.md` R262, logs 13 and 26). -/
def State.giveView (s : State) (r : DecodeResult) : State :=
  { s with frames := s.frames + 1, view := r.view (s.frames + 1) }

/-! ### Which level MSG reaches -/

/-- MSG is a Request: `n >= 2` and its type tag selects it (`42_message_decoder.md` R141). -/
def reachesRequest (rom : Rom) (msg : List Byte) : Bool :=
  decide (2 ≤ msg.length) && msg[0]?.bind (Rom.entry rom.l0) == some .request

/-- MSG is a Response (`42_message_decoder.md` R147). -/
def reachesResponse (rom : Rom) (msg : List Byte) : Bool :=
  decide (2 ≤ msg.length) && msg[0]?.bind (Rom.entry rom.l0) == some .response

/-- MSG is an ApplicationUpdate (`42_message_decoder.md` R143). -/
def reachesAppUpdate (rom : Rom) (msg : List Byte) : Bool :=
  reachesRequest rom msg && msg[1]?.bind (Rom.entry rom.req) == some .applicationUpdate

/-- MSG is an InfoReceived (`42_message_decoder.md` R145). -/
def reachesInfo (rom : Rom) (msg : List Byte) : Bool :=
  reachesAppUpdate rom msg && msg[2]?.bind (Rom.entry rom.au) == some .infoReceived

/-- The rows of the decoder apply in the step that completes a valid Data frame, to its MSG
(`30_encoding.md` R102). -/
def State.onMessage (s : State) (k : List Byte → Result) : Result :=
  whenSelected (s.report.frameKind == .data) (orFault s.message k)

/-! ### The rows -/

/-- REQUEST (`42_message_decoder.md` R141): one byte is consumed and the level Request goes on. -/
def execRequest (s : State) : Result :=
  s.onMessage fun msg => whenSelected (reachesRequest s.rom msg)
    (.next (s.reportResult (decodeRequest s.rom msg 1)))

/-- RESPONSE (`42_message_decoder.md` R147): the level Response goes on. -/
def execResponse (s : State) : Result :=
  s.onMessage fun msg => whenSelected (reachesResponse s.rom msg)
    (.next (s.reportResult (decodeResponse s.rom msg 1)))

/-- MT_UNKNOWN (`42_message_decoder.md` R142): `UnknownType(0, n, t)`. -/
def execMtUnknown (t : Byte) (s : State) : Result :=
  s.onMessage fun msg => whenSelected
    (decide (2 ≤ msg.length) && msg[0]? == some t && (Rom.entry s.rom.l0 t).isNone)
    (.next (s.reportResult (.unknownType 0 msg.length t)))

/-- APPLICATION_UPDATE (`42_message_decoder.md` R143): the level ApplicationUpdate goes on. -/
def execApplicationUpdate (s : State) : Result :=
  s.onMessage fun msg => whenSelected (reachesAppUpdate s.rom msg)
    (.next (s.reportResult (decodeAppUpdate s.rom msg 2)))

/-- RQ_UNKNOWN (`42_message_decoder.md` R144): `UnknownType(1, n - 1, f)`. -/
def execRqUnknown (f : Byte) (s : State) : Result :=
  s.onMessage fun msg => whenSelected
    (reachesRequest s.rom msg && msg[1]? == some f && (Rom.entry s.rom.req f).isNone)
    (.next (s.reportResult (.unknownType 1 (msg.length - 1) f)))

/-- RS_UNKNOWN (`42_message_decoder.md` R147): `UnknownType(1, n - 1, r)`, always. -/
def execRsUnknown (r : Byte) (s : State) : Result :=
  s.onMessage fun msg => whenSelected
    (reachesResponse s.rom msg && msg[1]? == some r && (Rom.entry s.rom.rsp r).isNone)
    (.next (s.reportResult (.unknownType 1 (msg.length - 1) r)))

/-- INFO_RECEIVED (`42_message_decoder.md` R145): the leaf InfoReceived goes on. -/
def execInfoReceived (s : State) : Result :=
  s.onMessage fun msg => whenSelected (reachesInfo s.rom msg)
    (.next (s.reportResult (decodeInfoReceived msg 3)))

/-- AU_UNKNOWN (`42_message_decoder.md` R146): `UnknownType(2, n - 2, t)`. -/
def execAuUnknown (t : Byte) (s : State) : Result :=
  s.onMessage fun msg => whenSelected
    (reachesAppUpdate s.rom msg && msg[2]? == some t && (Rom.entry s.rom.au t).isNone)
    (.next (s.reportResult (.unknownType 2 (msg.length - 2) t)))

/-- INFO_RECEIVED_OPERANDS (`42_message_decoder.md` R148): `node_id = MSG[3]`, `rest = MSG[4..n)`. -/
def execInfoReceivedOperands (nodeId : Byte) (rest : List Byte) (s : State) : Result :=
  s.onMessage fun msg => whenSelected (reachesInfo s.rom msg && msg.drop 3 == nodeId :: rest)
    (.next (s.reportResult (.message .infoReceived nodeId 4 rest.length)))

/-- SHORT_MESSAGE (`42_message_decoder.md` R150): fewer than two bytes, or a level that finds no byte. -/
def execShortMessage (s : State) : Result :=
  s.onMessage fun msg => whenSelected (decodeMessage s.rom msg == .shortMessage)
    (.next (s.reportResult .shortMessage))

end Sys2Proof.Machine
end

