-- ==== Sys2Proof/Machine/Handshake.lean ====
section
/-! DEFINITION. The handshake controller's rows (`43_handshake.md`), format HS: what a frame the parser
completed does in the current phase. They run in the middle of the step, on the report the parser and the
decoder have set, and no rule of them applies while FATAL = 1 (R160, log 25). -/

namespace Sys2Proof.Machine

/-- DATA_IN_READINGFRAME (`43_handshake.md` R161): every valid Data frame is acknowledged. -/
def execDataInReadingFrame (s : State) : Result :=
  whenSelected (s.takesFrame .data .readingFrame) (.next s.queueAck)

/-- ACK_IN_READINGFRAME (`43_handshake.md` R162): reported, no state change. -/
def execAckInReadingFrame (s : State) : Result :=
  whenSelected (s.takesFrame .ack .readingFrame) (.next (s.setRpt .frameEvent))

/-- NACK_IN_READINGFRAME (`43_handshake.md` R163): reported, no state change. -/
def execNackInReadingFrame (s : State) : Result :=
  whenSelected (s.takesFrame .nack .readingFrame) (.next (s.setRpt .frameEvent))

/-- CAN_IN_READINGFRAME (`43_handshake.md` R164): reported, no state change. -/
def execCanInReadingFrame (s : State) : Result :=
  whenSelected (s.takesFrame .can .readingFrame) (.next (s.setRpt .frameEvent))

/-- ACK_IN_AWAITINGACK (`43_handshake.md` R165): success. -/
def execAckInAwaitingAck (s : State) : Result :=
  whenSelected (s.takesFrame .ack .awaitingAck)
    (.next (({ s with phase := .readingFrame, retry := 0, rtxp := false }).setRpt .frameEvent))

/-- NACK_IN_AWAITINGACK (`43_handshake.md` R166): one retransmission is scheduled. -/
def execNackInAwaitingAck (s : State) : Result :=
  whenSelected (s.takesFrame .nack .awaitingAck && s.retriesLeft)
    (.next (s.countRetry.queueOut.setRpt .frameEvent))

/-- CAN_IN_AWAITINGACK (`43_handshake.md` R170): as a Nack. -/
def execCanInAwaitingAck (s : State) : Result :=
  whenSelected (s.takesFrame .can .awaitingAck && s.retriesLeft)
    (.next (s.countRetry.queueOut.setRpt .frameEvent))

/-- RETRY_LIMIT (`43_handshake.md` R169): a Nack or Cancel with no retransmission left is fatal. The
TIMEOUT trigger of the same rule is the row TIMEOUT_RETRY_LIMIT. -/
def execRetryLimit (k : FrameKind) (s : State) : Result :=
  whenSelected ((k == .nack || k == .can) && s.takesFrame k .awaitingAck && !s.retriesLeft)
    (.next s.exceedLimit)

/-- DATA_IN_AWAITINGACK (`43_handshake.md` R171): the protocol violation and its recovery. -/
def execDataInAwaitingAck (s : State) : Result :=
  whenSelected (s.takesFrame .data .awaitingAck && s.retriesLeft)
    (.next (({ s.countRetry.violate with rtxp := true }).queueAck))

/-- DATA_IN_AWAITINGACK_LIMIT (`43_handshake.md` R172): fatal; the decoded fields stay in the report. -/
def execDataInAwaitingAckLimit (s : State) : Result :=
  whenSelected (s.takesFrame .data .awaitingAck && !s.retriesLeft)
    (.next s.violate.exceedLimit)

/-- NON_FRAME (`43_handshake.md` R177): what is not a successfully parsed frame changes nothing here. The
parser's error rows do not invoke the controller, which is the same (log 18). -/
def execNonFrame (s : State) : Result :=
  whenSelected (s.takesFrame .none .readingFrame || s.takesFrame .none .awaitingAck) (.next s)

/-- A completed frame is handed to the controller in the step that completes it (`40_frame_parser.md`
R121): the transition table of `43_handshake.md` R160. In a writing phase the trigger cannot occur. -/
def dispatchFrame (s : State) : Result :=
  match s.phase, s.report.frameKind with
  | .readingFrame, .data => execDataInReadingFrame s
  | .readingFrame, .ack => execAckInReadingFrame s
  | .readingFrame, .nack => execNackInReadingFrame s
  | .readingFrame, .can => execCanInReadingFrame s
  | .awaitingAck, .data => if s.retriesLeft then execDataInAwaitingAck s else execDataInAwaitingAckLimit s
  | .awaitingAck, .ack => execAckInAwaitingAck s
  | .awaitingAck, .nack => if s.retriesLeft then execNackInAwaitingAck s else execRetryLimit .nack s
  | .awaitingAck, .can => if s.retriesLeft then execCanInAwaitingAck s else execRetryLimit .can s
  | .readingFrame, .none => execNonFrame s
  | .awaitingAck, .none => execNonFrame s
  | .writingMessage, _ => .refused .notSelected
  | .writingAck, _ => .refused .notSelected

end Sys2Proof.Machine
end

