-- ==== Sys2Proof/Machine/Parser.lean ====
section
/-! DEFINITION. The frame parser (`40_frame_parser.md`): the rows of the formats FT, LENB and BODYB. Each
is a whole RX_BYTE step: the parser's writes, for a Data frame the decoder, then the handshake (R121). -/

namespace Sys2Proof.Machine

/-- A received byte `b` whose row is selected when `c` holds. While `rx_ready = 0` the byte is not taken
and waits at the transport (`45_engine.md` R202, R203, log 4). -/
def State.receive (s : State) (b : Byte) (c : Bool) (r : Result) : Result :=
  if s.rxReady then whenSelected c r else .next (s.holdByte b)

/-- SOF (`40_frame_parser.md` R111). -/
def execSof (s : State) : Result :=
  s.receive 0x01 (s.pst == .idle) (.next { s.beginRx with pst := .len })

/-- ACK (`40_frame_parser.md` R112). -/
def execAck (s : State) : Result :=
  s.receive 0x06 (s.pst == .idle) (dispatchFrame (s.beginRx.completeFrame .ack 1))

/-- NACK (`40_frame_parser.md` R113). -/
def execNack (s : State) : Result :=
  s.receive 0x15 (s.pst == .idle) (dispatchFrame (s.beginRx.completeFrame .nack 1))

/-- CAN (`40_frame_parser.md` R114). -/
def execCan (s : State) : Result :=
  s.receive 0x18 (s.pst == .idle) (dispatchFrame (s.beginRx.completeFrame .can 1))

/-- FT_UNKNOWN (`40_frame_parser.md` R115): one byte consumed, reported, no state change. -/
def execFtUnknown (b : Byte) (s : State) : Result :=
  s.receive b (s.pst == .idle && !isFrameTag b)
    (.next (((s.beginRx.raise .unknownFrameType .protocolError).errTag b).consume 1))

/-- LEN_NONZERO (`40_frame_parser.md` R116). -/
def execLenNonzero (b : Byte) (s : State) : Result :=
  s.receive b (s.pst == .len && b != 0)
    (.next { s.beginRx with len := b, cnt := 0, csum := 0xFF ^^^ b, pst := .body })

/-- LEN_ZERO (`40_frame_parser.md` R117): ShortMessage, two bytes consumed, no acknowledgment. -/
def execLenZero (s : State) : Result :=
  s.receive 0x00 (s.pst == .len)
    (.next ((({ s.beginRx with len := 0, cnt := 0, csum := 0xFF, pst := .idle }).raise
      .shortMessage .protocolError).consume 2))

/-- The next body byte is not the last: `CNT < LEN - 1` (`40_frame_parser.md` R110). -/
def State.beforeLast (s : State) : Bool :=
  decide (s.cnt.toNat + 1 < s.len.toNat)

/-- The next body byte is the last, the checksum: `CNT = LEN - 1` (`40_frame_parser.md` R110). -/
def State.atLast (s : State) : Bool :=
  decide (s.cnt.toNat + 1 = s.len.toNat)

/-- The last body byte is stored and the parser returns to P_IDLE; CSUM is left as it is
(`40_frame_parser.md` R119, R120). -/
def State.endBody (s : State) (b : Byte) : Except Fault State :=
  match s.beginRx.writeRx s.cnt.toNat b with
  | .ok t => .ok { t with cnt := s.cnt + 1, pst := .idle }
  | .error f => .error f

/-- BODY_BYTE (`40_frame_parser.md` R118). -/
def execBodyByte (b : Byte) (s : State) : Result :=
  s.receive b (s.pst == .body && s.beforeLast)
    (orFault (s.beginRx.writeRx s.cnt.toNat b) fun t =>
      .next { t with csum := s.csum ^^^ b, cnt := s.cnt + 1 })

/-- The decoder's part of a frame-completing step (`40_frame_parser.md` R119, R121): it runs on MSG, sets the
report and gives its view. -/
def State.decodeStage (s : State) (k : State → Result) : Result :=
  orFault s.message fun msg =>
    k ((s.reportResult (decodeMessage s.rom msg)).giveView (decodeMessage s.rom msg))

/-- CHECKSUM_OK (`40_frame_parser.md` R119): the parser's writes, the decoder and its view, then the
handshake, in this order. -/
def execChecksumOk (b : Byte) (s : State) : Result :=
  s.receive b (s.pst == .body && s.atLast && b == s.csum)
    (orFault (s.endBody b) fun t =>
      (t.completeFrame .data (frameBytes s.len)).decodeStage dispatchFrame)

/-- CHECKSUM_BAD (`40_frame_parser.md` R120): the frame is consumed and not trusted. -/
def execChecksumBad (b : Byte) (s : State) : Result :=
  s.receive b (s.pst == .body && s.atLast && b != s.csum)
    (orFault (s.endBody b) fun t =>
      .next ((t.raise .invalidChecksum .protocolError).consume (frameBytes s.len)))

end Sys2Proof.Machine
end

