-- ==== Sys2Proof/Machine/Encoder.lean ====
section
/-! DEFINITION. The rows of the format TXF: the two byte strings the block transmits
(`30_encoding.md` R91, `44_frame_encoder.md`). -/

namespace Sys2Proof.Machine

/-- ENCODE_DATA (`44_frame_encoder.md` R190): OUTBUF and OUTLEN take the frame of a message of legal
length. It is part of the step that accepts a send request (log 25). -/
def execEncodeData (m : List Byte) (s : State) : Result :=
  whenSelected (s.sendReady && legalLength m) (orFault (s.writeOut (encodeFrame m)) .next)

/-- ENCODE_ACK (`44_frame_encoder.md` R193): while PHASE = WritingAck the constant byte 06 is presented as
`tx_bytes`. Presenting it has no effect on the block (`20_memory.md` R64, log 23). -/
def execEncodeAck (s : State) : Result :=
  whenSelected (s.inPhase .writingAck) (.next s)

end Sys2Proof.Machine
end

