-- ==== Sys2Proof/Machine/Events.lean ====
section
/-! DEFINITION. The rows of the format EV: the input events (`30_encoding.md` R98, `45_engine.md`,
`43_handshake.md` section 4, `60_exceptions.md` R236, `70_reset_and_hazards.md` R250). Each is a whole step. -/

namespace Sys2Proof.Machine

/-- RESET (`70_reset_and_hazards.md` R250), enabled in every state. -/
def execReset (cfg : Cfg) (s : State) : Result :=
  .next (s.reopen cfg)

/-- RX_BYTE (`45_engine.md` R203): when enabled, the parser's row for the byte fires (`40_frame_parser.md`
R110); when not, the byte waits at the transport. -/
def execRxByte (b : Byte) (s : State) : Result :=
  if s.rxReady then
    match s.pst with
    | .idle =>
      if b = 0x01 then execSof s
      else if b = 0x06 then execAck s
      else if b = 0x15 then execNack s
      else if b = 0x18 then execCan s
      else execFtUnknown b s
    | .len => if b = 0 then execLenZero s else execLenNonzero b s
    | .body =>
      if s.beforeLast then execBodyByte b s
      else if s.atLast then
        if b = s.csum then execChecksumOk b s else execChecksumBad b s
      else .refused (.undecodable .bodyOverrun)
  else .next (s.holdByte b)

/-- SEND with a legal length (`45_engine.md` R210); while `send_ready = 0` it waits at the caller (R205). -/
def execSend (m : List Byte) (s : State) : Result :=
  whenSelected (legalLength m)
    (if s.sendReady then
      orFault (s.begin.writeOut (encodeFrame m)) fun t =>
        .next (({ t with retry := 0, rtxp := false }).queueOut.setRpt .needsWrite)
    else .next (s.holdSend m))

/-- SEND with an illegal length (`45_engine.md` R211): consumed and refused in the report; while
`send_ready = 0` it waits at the caller like any other (R205). -/
def execSendBadLength (m : List Byte) (s : State) : Result :=
  whenSelected (refusedLength m)
    (if s.sendReady then .next (s.begin.raise .sendLength .sendRejected)
    else .next (s.holdSend m))

/-- TX_DONE in WritingMessage (`43_handshake.md` R173). -/
def execTxDoneWritingMessage (s : State) : Result :=
  whenSelected (s.inPhase .writingMessage) (.next { s.begin with phase := .awaitingAck })

/-- TX_DONE in WritingAck, nothing owed (`43_handshake.md` R174). -/
def execTxDoneWritingAck (s : State) : Result :=
  whenSelected (s.inPhase .writingAck && !s.rtxp) (.next { s.begin with phase := .readingFrame })

/-- TX_DONE in WritingAck, a retransmission owed (`43_handshake.md` R175). -/
def execTxDoneWritingAckRetransmit (s : State) : Result :=
  whenSelected (s.inPhase .writingAck && s.rtxp)
    (.next (({ s.begin with rtxp := false }).queueOut.setRpt .needsWrite))

/-- TX_DONE outside a writing phase (`43_handshake.md` R176): ignored. -/
def execTxDoneSpurious (s : State) : Result :=
  whenSelected (s.inPhase .readingFrame || s.inPhase .awaitingAck) (.next s.begin)

/-- TIMEOUT in AwaitingAck, retries left (`43_handshake.md` R167). -/
def execTimeoutAwaitingAck (s : State) : Result :=
  whenSelected (s.inPhase .awaitingAck && s.retriesLeft)
    (.next (s.begin.countRetry.queueOut.setRpt .needsWrite))

/-- TIMEOUT in AwaitingAck, no retry left (`43_handshake.md` R169). -/
def execTimeoutRetryLimit (s : State) : Result :=
  whenSelected (s.inPhase .awaitingAck && !s.retriesLeft) (.next s.begin.exceedLimit)

/-- TIMEOUT outside AwaitingAck (`43_handshake.md` R168): ignored. -/
def execTimeoutStale (s : State) : Result :=
  whenSelected (!s.fatal && s.phase != .awaitingAck) (.next s.begin)

/-- XPORT_ERR with FATAL = 0 (`45_engine.md` R212): always fatal. -/
def execXportErr (s : State) : Result :=
  whenSelected (!s.fatal) (.next (s.begin.enterFatal .transport .transport .transportError))

/-- TX_DONE, TIMEOUT or XPORT_ERR while FATAL = 1 (`60_exceptions.md` R236): taken, no state change. -/
def execAnyEventWhileFatal (_e : FatalEvent) (s : State) : Result :=
  whenSelected s.fatal (.next s.begin)

end Sys2Proof.Machine
end

