-- ==== Sys2Proof/Machine/Arbiter.lean ====
section
/-! DEFINITION. Which pending event the block takes next (`60_exceptions.md` R226, R230): any pending
enabled one, by the environment's choice ARB; the others stay pending. -/

namespace Sys2Proof.Machine

/-- A pending RESET, always enabled (`45_engine.md` R208), and the state after taking it off its port. -/
def State.offeredReset (s : State) : List (Event × State) :=
  match s.ports.reset with
  | [] => []
  | c :: rest => [(.reset c, { s with ports := { s.ports with reset := rest } })]

/-- A pending XPORT_ERR, always enabled (`45_engine.md` R208). -/
def State.offeredXportErr (s : State) : List (Event × State) :=
  match s.ports.xportErr with
  | 0 => []
  | n + 1 => [(.xportErr, { s with ports := { s.ports with xportErr := n } })]

/-- A pending TX_DONE, always enabled (`45_engine.md` R206). -/
def State.offeredTxDone (s : State) : List (Event × State) :=
  match s.ports.txDone with
  | 0 => []
  | n + 1 => [(.txDone, { s with ports := { s.ports with txDone := n } })]

/-- The oldest waiting byte, enabled while `rx_ready = 1` (`45_engine.md` R203, `20_memory.md` R68). -/
def State.offeredRx (s : State) : List (Event × State) :=
  match s.ports.rx with
  | [] => []
  | b :: rest => if s.rxReady then [(.rxByte b, { s with ports := { s.ports with rx := rest } })] else []

/-- A pending TIMEOUT, always enabled (`45_engine.md` R207). -/
def State.offeredTimeout (s : State) : List (Event × State) :=
  match s.ports.timeout with
  | 0 => []
  | n + 1 => [(.timeout, { s with ports := { s.ports with timeout := n } })]

/-- The oldest waiting send request, enabled while `send_ready = 1` (`45_engine.md` R205). -/
def State.offeredSend (s : State) : List (Event × State) :=
  match s.ports.send with
  | [] => []
  | m :: rest => if s.sendReady then [(.send m, { s with ports := { s.ports with send := rest } })] else []

/-- Every pending enabled event, with the state after taking it off its port. -/
def State.offers (s : State) : List (Event × State) :=
  s.offeredReset ++ s.offeredXportErr ++ s.offeredTxDone ++ s.offeredRx ++ s.offeredTimeout ++
    s.offeredSend

/-- Choosing among several: the next free value decides (ARB, log 2). -/
def arbitrate (s : State) (os : List (Event × State)) : Option (Event × State) :=
  match os[Config.arb s.draws % os.length]? with
  | some (e, t) => some (e, { t with draws := t.draws + 1 })
  | none => none

/-- The event taken next and the state without it at its port; `none` if no pending event is enabled. -/
def State.fetch (s : State) : Option (Event × State) :=
  match s.offers with
  | [] => none
  | [o] => some o
  | o :: p :: os => arbitrate s (o :: p :: os)

/-- The ports with one event waiting and nothing else. -/
def portsWith : Event → Ports
  | .reset c => { reset := [c] }
  | .rxByte b => { rx := [b] }
  | .send m => { send := [m] }
  | .txDone => { txDone := 1 }
  | .timeout => { timeout := 1 }
  | .xportErr => { xportErr := 1 }

end Sys2Proof.Machine
end

