-- ==== Sys2Proof/Machine/Dispatch.lean ====
section
/-! DEFINITION. The dispatch: one arm per row of `spec/opcode_table.json`. -/

namespace Sys2Proof.Machine

def exec (i : Instr) (s : State) : Host.Outcome State Fault Refusal :=
  match i with
  | .sof => Sys2Proof.Machine.execSof s
  | .ack => Sys2Proof.Machine.execAck s
  | .nack => Sys2Proof.Machine.execNack s
  | .can => Sys2Proof.Machine.execCan s
  | .ftUnknown b => Sys2Proof.Machine.execFtUnknown b s
  | .lenNonzero b => Sys2Proof.Machine.execLenNonzero b s
  | .lenZero => Sys2Proof.Machine.execLenZero s
  | .bodyByte b => Sys2Proof.Machine.execBodyByte b s
  | .checksumOk b => Sys2Proof.Machine.execChecksumOk b s
  | .checksumBad b => Sys2Proof.Machine.execChecksumBad b s
  | .request => Sys2Proof.Machine.execRequest s
  | .response => Sys2Proof.Machine.execResponse s
  | .mtUnknown t => Sys2Proof.Machine.execMtUnknown t s
  | .applicationUpdate => Sys2Proof.Machine.execApplicationUpdate s
  | .rqUnknown f => Sys2Proof.Machine.execRqUnknown f s
  | .rsUnknown r => Sys2Proof.Machine.execRsUnknown r s
  | .infoReceived => Sys2Proof.Machine.execInfoReceived s
  | .auUnknown t => Sys2Proof.Machine.execAuUnknown t s
  | .infoReceivedOperands nodeId rest => Sys2Proof.Machine.execInfoReceivedOperands nodeId rest s
  | .shortMessage => Sys2Proof.Machine.execShortMessage s
  | .dataInReadingFrame => Sys2Proof.Machine.execDataInReadingFrame s
  | .ackInReadingFrame => Sys2Proof.Machine.execAckInReadingFrame s
  | .nackInReadingFrame => Sys2Proof.Machine.execNackInReadingFrame s
  | .canInReadingFrame => Sys2Proof.Machine.execCanInReadingFrame s
  | .ackInAwaitingAck => Sys2Proof.Machine.execAckInAwaitingAck s
  | .nackInAwaitingAck => Sys2Proof.Machine.execNackInAwaitingAck s
  | .canInAwaitingAck => Sys2Proof.Machine.execCanInAwaitingAck s
  | .retryLimit k => Sys2Proof.Machine.execRetryLimit k s
  | .dataInAwaitingAck => Sys2Proof.Machine.execDataInAwaitingAck s
  | .dataInAwaitingAckLimit => Sys2Proof.Machine.execDataInAwaitingAckLimit s
  | .nonFrame => Sys2Proof.Machine.execNonFrame s
  | .reset cfg => Sys2Proof.Machine.execReset cfg s
  | .rxByte b => Sys2Proof.Machine.execRxByte b s
  | .send m => Sys2Proof.Machine.execSend m s
  | .sendBadLength m => Sys2Proof.Machine.execSendBadLength m s
  | .txDoneWritingMessage => Sys2Proof.Machine.execTxDoneWritingMessage s
  | .txDoneWritingAck => Sys2Proof.Machine.execTxDoneWritingAck s
  | .txDoneWritingAckRetransmit => Sys2Proof.Machine.execTxDoneWritingAckRetransmit s
  | .txDoneSpurious => Sys2Proof.Machine.execTxDoneSpurious s
  | .timeoutAwaitingAck => Sys2Proof.Machine.execTimeoutAwaitingAck s
  | .timeoutRetryLimit => Sys2Proof.Machine.execTimeoutRetryLimit s
  | .timeoutStale => Sys2Proof.Machine.execTimeoutStale s
  | .xportErr => Sys2Proof.Machine.execXportErr s
  | .anyEventWhileFatal e => Sys2Proof.Machine.execAnyEventWhileFatal e s
  | .encodeData m => Sys2Proof.Machine.execEncodeData m s
  | .encodeAck => Sys2Proof.Machine.execEncodeAck s

end Sys2Proof.Machine
end

