-- ==== Sys2Proof/Machine/Step.lean ====
section
/-! DEFINITION. One step: the next pending enabled event is taken off its port, decoded in the state's
context and executed (`00_scope.md` R12, `45_engine.md` R202). With no enabled event pending the block
does nothing and keeps all state (`60_exceptions.md` R241, log 3). -/

namespace Sys2Proof.Machine

/-- One step of the block. -/
def step (s : State) : Host.Outcome State Fault Refusal :=
  match s.fetch with
  | none => .next s
  | some (e, t) =>
    match decode (t.ctx .ev) e.toInput with
    | .ok i => exec i t
    | .error r => .refused (.undecodable r)

/-- The state with the event of a table word waiting at its port and nothing else waiting, so that the
next step takes it (logs 15 and 16). -/
def State.withFetchWord (s : State) (nbits w : Nat) : State :=
  if 8 < nbits then s
  else match tableEvent w with
    | none => s
    | some e => { s with ports := portsWith e }

end Sys2Proof.Machine
end

