-- ==== Sys2Proof/Safety.lean ====
section
/-! DEFINITION. What the statements speak of beside the machine: the invariant of every reachable state
(`10_state.md` R42), the spec's own step on one event, a run of received bytes, and which rows are
events. -/

namespace Sys2Proof.Machine

/-- The bytes of a Data frame: the tag 01, a length byte that counts what follows it, and a last byte that
is the fold over the bytes between (`10_state.md` R42 (v)). -/
def isDataFrame (f : List Byte) : Bool :=
  match f with
  | tag :: l :: body =>
    tag == 0x01 && decide (l.toNat + 2 = f.length) && body.getLast? == some (checksum l body.dropLast)
  | _ => false

/-- A message is in flight: OUTBUF holds a frame that is, was or will be written
(`10_state.md` R42 (v), `43_handshake.md` R180). -/
def State.inFlight (s : State) : Bool :=
  s.phase == .writingMessage || s.phase == .awaitingAck || s.rtxp

/-- The invariant of every reachable state: `10_state.md` R42 (i) to (vi), with what its induction needs
(the canonical form of the buffers, the accumulator of `41_checksum.md` R132, the live view of
`70_reset_and_hazards.md` R262, the argument range of SEND in `30_encoding.md` R98). R42 (i) holds by the
types; (vii) is about steps and is the obligation `WritingPhasesTakeNoByte`. -/
structure State.Inv (s : State) : Prop where
  rxbufWf   : Memory.wf rxbufSize s.rxbuf = true
  outbufWf  : Memory.wf outbufSize s.outbuf = true
  body      : s.pst = .body → s.cnt.toNat < s.len.toNat ∧
                ∃ bs, Memory.view s.rxbuf 0 s.cnt.toNat = some bs ∧ s.csum = checksum s.len bs
  retryMax  : s.retry.toNat ≤ s.cfg.maxRetry.toNat
  rtxpPhase : s.rtxp = true → s.phase = .writingAck
  outFrame  : s.inFlight = true → 4 ≤ s.outlen.toNat ∧ s.outlen.toNat ≤ 257 ∧
                ∃ f, Memory.view s.outbuf 0 s.outlen.toNat = some f ∧ isDataFrame f = true
  fatalIff  : s.fatal = true ↔ s.fcause ≠ .none
  liveView  : ∀ v, s.view = some v → v.serial = s.frames ∧
                v.off.toNat + v.len.toNat < s.len.toNat ∧
                ∃ bs, Memory.view s.rxbuf v.off.toNat v.len.toNat = some bs
  sendArgs  : ∀ m ∈ s.ports.send, m.length ≤ 255
  errCode   : s.report.err ≠ .protocolViolation

/-- The spec's own `step(cfg, s, e)` on one event (`00_scope.md` R12, `45_engine.md` R202): its row is
decoded in the state's context and executed. Where the spec answers `none` the event waits at its
producer (log 4). -/
def State.deliver (s : State) (e : Event) : Result :=
  match decode (s.ctx .ev) e.toInput with
  | .ok i => exec i s
  | .error r => .refused (.undecodable r)

/-- A run of RX_BYTE steps, one per byte (`30_encoding.md` R92, `rx`), stopping where a step does. -/
def State.feed : List Byte → State → Result
  | [], s => .next s
  | b :: bs, s => match exec (.rxByte b) s with
    | .next t => State.feed bs t
    | .fault f => .fault f
    | .refused r => .refused r

/-- `n` rounds of a deadline that elapses and a frame that is written (`43_handshake.md` R178). -/
def State.timeoutRounds : Nat → State → Result
  | 0, s => .next s
  | n + 1, s => match s.deliver .timeout with
    | .next t => match t.deliver .txDone with
      | .next u => State.timeoutRounds n u
      | .fault f => .fault f
      | .refused r => .refused r
    | .fault f => .fault f
    | .refused r => .refused r

/-- How many stream bytes of an unfinished Data frame have been consumed: none in P_IDLE, the tag in P_LEN,
tag, length byte and CNT body bytes in P_BODY (`40_frame_parser.md` R122). -/
def State.position (s : State) : Nat :=
  match s.pst with
  | .idle => 0
  | .len => 1
  | .body => s.cnt.toNat + 2

/-- The format of the byte a parser state expects (`30_encoding.md` R102). -/
def formatOf : Pst → Format
  | .idle => .ft
  | .len => .lenb
  | .body => .bodyb

/-- The report of the step that completes the Data frame of a message, as the parser and the decoder leave
it (`40_frame_parser.md` R119, `42_message_decoder.md` R151). -/
def dataReport (rom : Rom) (len : Byte) (msg : List Byte) : Report :=
  let r : Report := { frameKind := .data, consumed := frameBytes len }
  match decodeMessage rom msg with
  | .message k id ro rl =>
    { r with rpt := .message, msgKind := k, nodeId := id, restOff := BitVec.ofNat 8 ro,
             restLen := BitVec.ofNat 8 rl }
  | .shortMessage => { r with rpt := .protocolError, err := .shortMessage }
  | .unknownType o l t =>
    { r with rpt := .protocolError, err := .unknownType, errTag := t, remOff := BitVec.ofNat 8 o,
             remLen := BitVec.ofNat 8 l }

/-! ### What a statement calls unchanged -/

/-- The parser's registers and buffer are the same (`10_state.md` R35, columns PST to RXBUF). -/
def State.sameParser (s t : State) : Prop :=
  t.pst = s.pst ∧ t.len = s.len ∧ t.cnt = s.cnt ∧ t.csum = s.csum ∧ t.rxbuf = s.rxbuf

/-- The handshake's registers are the same (`10_state.md` R35, columns PHASE to FCAUSE). -/
def State.sameLink (s t : State) : Prop :=
  t.phase = s.phase ∧ t.retry = s.retry ∧ t.rtxp = s.rtxp ∧ t.fatal = s.fatal ∧ t.fcause = s.fcause

/-- The outgoing frame is the same (`10_state.md` R35, columns OUTBUF and OUTLEN). -/
def State.sameOut (s t : State) : Prop :=
  t.outbuf = s.outbuf ∧ t.outlen = s.outlen

/-- The only change of a buffer is the byte stored at index `i` (`20_memory.md` R63). -/
def storedOnly (m m' : Memory) (i : Nat) (b : Byte) : Prop :=
  Memory.read m' i = some b ∧ ∀ a, a ≠ i → Memory.read m' a = Memory.read m a

/-- OUTBUF holds the frame of a message cell by cell, and nothing else of it has changed
(`44_frame_encoder.md` R190). -/
def storedFrame (m m' : Memory) (msg : List Byte) : Prop :=
  Memory.read m' 0 = some 0x01 ∧ Memory.read m' 1 = some (BitVec.ofNat 8 (msg.length + 1)) ∧
  (∀ i, i < msg.length → Memory.read m' (2 + i) = msg[i]?) ∧
  Memory.read m' (msg.length + 2) =
    some (foldXor (0xFF ^^^ BitVec.ofNat 8 (msg.length + 1)) msg) ∧
  ∀ a, msg.length + 3 ≤ a → Memory.read m' a = Memory.read m a

/-- The rows of the message decoder. -/
def isDecoderRow (i : Instr) : Bool :=
  match i.format with
  | .mt => true
  | .rq => true
  | .rs => true
  | .au => true
  | .ir => true
  | _ => false

/-- The formats that are shown all bytes of MSG that are left and consume the first one
(`30_encoding.md` R85, `42_message_decoder.md` R140). -/
def readsFirst (f : Format) : Bool :=
  f == .mt || f == .rq || f == .rs || f == .au

/-- The rows of the descent of the decoder on a message, one per level it reaches: each level's format
decodes what the levels above it have left (`42_message_decoder.md` R140, `30_encoding.md` R102). -/
def levelRows (rom : Rom) (msg : List Byte) : List Instr :=
  match decodeMt rom msg.length msg with
  | .request => .request :: match decodeRq rom (msg.drop 1) with
    | .applicationUpdate => .applicationUpdate :: match decodeAu rom (msg.drop 2) with
      | .infoReceived => .infoReceived :: match decodeIr (msg.drop 3) with
        | .ok i => [i]
        | .error _ => []
      | i => [i]
    | i => [i]
  | .response => [.response, decodeRs rom (msg.drop 1)]
  | i => [i]

end Sys2Proof.Machine
end

