-- ==== Sys2Proof/Certificates/Slice0/Obligations.lean ====
section
/-! DEFINITION. The statements for the provers. A statement of an instruction's result gives the whole next
state as the old one with the written fields replaced, so that it is also the frame. The field `view` of a
received byte's step, and `frames` of one that completes a Data frame, are not said there: the life of a view
is the statement `ViewLife` (logs 13 and 26). -/

open Sys2Proof Sys2Proof.Machine

/-! ### Encoding -/

/-- Decode and encode agree: in a context of its format that its row admits, with the baseline tables, a
well-formed instruction is what its word decodes to (`30_encoding.md` section 9). -/
def Obligations.DecodeEncodeAgree : Prop :=
  ∀ (i : Instr) (c : Ctx), i.wellFormed = true → c.fmt = i.format → c.rom = Rom.baseline →
    c.admits i = true → decode c i.encode = .ok i

/-- Whatever the decoder gives is a well-formed row that the context admits. But for SHORT_MESSAGE its format
is the context's; its word is the whole input, and in MT, RQ, RS and AU, which are shown all bytes that are
left and consume one, the first byte of it. SHORT_MESSAGE is given only in MT with n < 2 and where a level or
the leaf finds no byte (`30_encoding.md` sections 2 and 9, `42_message_decoder.md` section 1). -/
def Obligations.DecodedRowIsSelected : Prop :=
  ∀ (c : Ctx) (x : Input) (i : Instr), c.rom = Rom.baseline → decode c x = .ok i →
    i.wellFormed = true ∧ c.admits i = true ∧
      (i = .shortMessage → (c.fmt = .mt ∧ c.n < 2) ∨
        ((readsFirst c.fmt = true ∨ c.fmt = .ir) ∧ x = .bytes [])) ∧
      (i ≠ .shortMessage → i.format = c.fmt ∧
        (readsFirst c.fmt = true → ∃ b rest, i.encode = .bytes [b] ∧ x = .bytes (b :: rest)) ∧
        (readsFirst c.fmt = false → i.encode = x))

/-- The tag maps: the frame-type tags, all 256 values, and the baseline tables of the message tags
(`30_encoding.md` R83, R87). -/
def Obligations.TagMaps : Prop :=
  (∀ s : State, s.pst = .idle →
    decode (s.ctx (formatOf s.pst)) (.bytes [0x01]) = .ok .sof ∧
    decode (s.ctx (formatOf s.pst)) (.bytes [0x06]) = .ok .ack ∧
    decode (s.ctx (formatOf s.pst)) (.bytes [0x15]) = .ok .nack ∧
    decode (s.ctx (formatOf s.pst)) (.bytes [0x18]) = .ok .can ∧
    ∀ b : Byte, b ≠ 0x01 → b ≠ 0x06 → b ≠ 0x15 → b ≠ 0x18 →
      decode (s.ctx (formatOf s.pst)) (.bytes [b]) = .ok (.ftUnknown b)) ∧
  ∀ t : Byte,
    (Rom.entry Rom.baseline.l0 t = some .request ↔ t = 0x00) ∧
    (Rom.entry Rom.baseline.l0 t = some .response ↔ t = 0x01) ∧
    (Rom.entry Rom.baseline.req t = some .applicationUpdate ↔ t = 0x49) ∧
    Rom.entry Rom.baseline.rsp t = none ∧
    (Rom.entry Rom.baseline.au t = some .infoReceived ↔ t = 0x84)

/-- Words of each format written out from the opcode table decode to their rows. -/
def Obligations.SampleWordsDecode : Prop :=
  decode (Ctx.afterReset .ft) (.bytes [0b00010101]) = .ok .nack ∧
  decode (Ctx.afterReset .lenb) (.bytes [0b00000101]) = .ok (.lenNonzero 5) ∧
  decode (Ctx.afterReset .rq) (.bytes [0b01001001]) = .ok .applicationUpdate ∧
  decode (Ctx.afterReset .au) (.bytes [0b10000100]) = .ok .infoReceived ∧
  decode (Ctx.afterReset .hs) (.bytes [0b00000100]) = .ok .canInReadingFrame ∧
  decode (Ctx.afterReset .ev) (.event 0b011 .none) = .ok .txDoneSpurious ∧
  decode (Ctx.afterReset .txf) (.bytes [0x01, 0x04, 0x00, 0x13, 0x05, 0xED]) =
    .ok (.encodeData [0x00, 0x13, 0x05])

/-- The event codes: 6 and 7 name no event, and SEND's argument has at most 255 bytes
(`30_encoding.md` section 6; a longer one is refused, log 22). -/
def Obligations.EventCodes : Prop :=
  ∀ (c : Ctx) (arg : EventArg), c.fmt = .ev →
    decode c (.event 6 arg) = .error .unusedEventCode ∧
    decode c (.event 7 arg) = .error .unusedEventCode ∧
    ∀ e : Event, (∃ i, decode c e.toInput = .ok i) ↔ ∀ m, e = .send m → m.length ≤ 255

/-! ### The step -/

/-- A step runs the decoded event: the event taken is decoded in the state without it and executed there;
nothing stands around `exec` (`45_engine.md` section 2, `60_exceptions.md` section 3). -/
def Obligations.StepRunsDecodedEvent : Prop :=
  ∀ (s t : State) (e : Event) (i : Instr), s.fetch = some (e, t) →
    decode (t.ctx .ev) e.toInput = .ok i → i.wellFormed = true → step s = exec i t

/-- The only waiting event, if enabled, is taken off its port and is the spec's own step on it. -/
def Obligations.StepTakesTheOnlyEvent : Prop :=
  ∀ (s : State) (e : Event), s.ports = portsWith e →
    ((∃ b, e = .rxByte b) → s.rxReady = true) → ((∃ m, e = .send m) → s.sendReady = true) →
    step s = State.deliver { s with ports := {} } e

/-- A step takes one pending enabled event, and the others stay pending (`60_exceptions.md` section 3):
but for the counter of free values (log 2), only the port of the event taken has changed. Bytes keep their
arrival order (`20_memory.md` section 6). That of several waiting RESETs or SENDs the oldest is the one taken
is the model's choice (log 19): the spec gives the requests no order. -/
def Obligations.FetchTakesOnePendingEvent : Prop :=
  ∀ (s t : State) (e : Event), s.fetch = some (e, t) → ∃ d,
    (∃ c rest, s.ports.reset = c :: rest ∧ e = .reset c ∧
      t = { s with ports := { s.ports with reset := rest }, draws := d }) ∨
    (∃ n, s.ports.xportErr = n + 1 ∧ e = .xportErr ∧
      t = { s with ports := { s.ports with xportErr := n }, draws := d }) ∨
    (∃ n, s.ports.txDone = n + 1 ∧ e = .txDone ∧
      t = { s with ports := { s.ports with txDone := n }, draws := d }) ∨
    (∃ b rest, s.ports.rx = b :: rest ∧ s.rxReady = true ∧ e = .rxByte b ∧
      t = { s with ports := { s.ports with rx := rest }, draws := d }) ∨
    (∃ n, s.ports.timeout = n + 1 ∧ e = .timeout ∧
      t = { s with ports := { s.ports with timeout := n }, draws := d }) ∨
    (∃ m rest, s.ports.send = m :: rest ∧ s.sendReady = true ∧ e = .send m ∧
      t = { s with ports := { s.ports with send := rest }, draws := d })

/-- Between events the block keeps all state: with no enabled event pending a step changes nothing
(`60_exceptions.md` section 10; that such a step exists at all is the model's, log 3). -/
def Obligations.IdleStepKeepsState : Prop :=
  ∀ s : State, s.ports.reset = [] → s.ports.xportErr = 0 → s.ports.txDone = 0 → s.ports.timeout = 0 →
    (s.rxReady = true → s.ports.rx = []) → (s.sendReady = true → s.ports.send = []) →
    step s = .next s

/-- Which event is enabled when: among the events the arbiter may take, the oldest received byte is one iff
FATAL = 0 and PHASE is ReadingFrame or AwaitingAck; the oldest send request is one iff FATAL = 0, PHASE is
ReadingFrame and PST is P_IDLE; the other four always are. A byte or a request that is not enabled waits: no
step takes it (`45_engine.md` R203, R205, R208). -/
def Obligations.EnableConditions : Prop :=
  ∀ s : State,
    (∀ b rest, s.ports.rx = b :: rest →
      ((∃ t, (Event.rxByte b, t) ∈ s.offers) ↔
        s.fatal = false ∧ (s.phase = .readingFrame ∨ s.phase = .awaitingAck))) ∧
    (∀ m rest, s.ports.send = m :: rest →
      ((∃ t, (Event.send m, t) ∈ s.offers) ↔
        s.fatal = false ∧ s.phase = .readingFrame ∧ s.pst = .idle)) ∧
    (∀ n, s.ports.xportErr = n + 1 → ∃ t, (Event.xportErr, t) ∈ s.offers) ∧
    (∀ c rest, s.ports.reset = c :: rest → ∃ t, (Event.reset c, t) ∈ s.offers) ∧
    (∀ n, s.ports.txDone = n + 1 → ∃ t, (Event.txDone, t) ∈ s.offers) ∧
    (∀ n, s.ports.timeout = n + 1 → ∃ t, (Event.timeout, t) ∈ s.offers) ∧
    (∀ t, step s = .next t → s.rxReady = false → t.ports.rx = s.ports.rx) ∧
    (∀ t, step s = .next t → s.sendReady = false → t.ports.send = s.ports.send)

/-- The model's choice (log 4): a byte or a send request that is not enabled goes back to its port, first in
line, and nothing else changes. The spec says that it waits at its producer (`45_engine.md` section 2). -/
def Obligations.HeldEventsWait : Prop :=
  ∀ (s : State) (b : Byte) (m : List Byte),
    (s.rxReady = false →
      exec (.rxByte b) s = .next { s with ports := { s.ports with rx := b :: s.ports.rx } } ∧
      exec .sof s = exec (.rxByte 0x01) s ∧ exec .ack s = exec (.rxByte 0x06) s ∧
      exec .nack s = exec (.rxByte 0x15) s ∧ exec .can s = exec (.rxByte 0x18) s ∧
      exec (.ftUnknown b) s = exec (.rxByte b) s ∧ exec (.lenNonzero b) s = exec (.rxByte b) s ∧
      exec .lenZero s = exec (.rxByte 0x00) s ∧ exec (.bodyByte b) s = exec (.rxByte b) s ∧
      exec (.checksumOk b) s = exec (.rxByte b) s ∧ exec (.checksumBad b) s = exec (.rxByte b) s) ∧
    (s.sendReady = false → 1 ≤ m.length → m.length ≤ 254 →
      exec (.send m) s = .next { s with ports := { s.ports with send := m :: s.ports.send } }) ∧
    (s.sendReady = false → (m.length = 0 ∨ m.length = 255) →
      exec (.sendBadLength m) s = .next { s with ports := { s.ports with send := m :: s.ports.send } })

/-- Bytes are taken in arrival order (`20_memory.md` section 6) and no byte and no send request is lost
(`70_reset_and_hazards.md` section 3): a step leaves each of the two ports as it is or takes its oldest entry,
and takes it only while enabled. That send requests are taken oldest first is the model's choice (log 19): the
spec says only that a SEND waits. -/
def Obligations.StreamOrderKept : Prop :=
  ∀ s t : State, step s = .next t →
    (t.ports.rx = s.ports.rx ∨ (∃ b, s.ports.rx = b :: t.ports.rx ∧ s.rxReady = true)) ∧
    (t.ports.send = s.ports.send ∨ (∃ m, s.ports.send = m :: t.ports.send ∧ s.sendReady = true))

/-! ### The frame parser -/

/-- RX_BYTE runs the row that its parser state's format decodes the byte to (`40_frame_parser.md` section 1). -/
def Obligations.RxByteRunsParserRow : Prop :=
  ∀ (s : State) (b : Byte) (i : Instr), s.rxReady = true →
    decode (s.ctx (formatOf s.pst)) (.bytes [b]) = .ok i → exec (.rxByte b) s = exec i s

/-- RX_BYTE is taken in every state of the invariant that has `rx_ready = 1`, and the table of the parser
says what PST becomes and which frame is completed (`40_frame_parser.md` section 1). -/
def Obligations.RxByteTable : Prop :=
  ∀ (s : State) (b : Byte), s.Inv → s.rxReady = true → ∃ t, exec (.rxByte b) s = .next t ∧
    (s.pst = .idle → b = 0x01 → t.pst = .len ∧ t.report.frameKind = .none) ∧
    (s.pst = .idle → b = 0x06 → t.pst = .idle ∧ t.report.frameKind = .ack) ∧
    (s.pst = .idle → b = 0x15 → t.pst = .idle ∧ t.report.frameKind = .nack) ∧
    (s.pst = .idle → b = 0x18 → t.pst = .idle ∧ t.report.frameKind = .can) ∧
    (s.pst = .idle → isFrameTag b = false → t.pst = .idle ∧ t.report.frameKind = .none) ∧
    (s.pst = .len → b ≠ 0 → t.pst = .body ∧ t.report.frameKind = .none) ∧
    (s.pst = .len → b = 0 → t.pst = .idle ∧ t.report.frameKind = .none) ∧
    (s.pst = .body → s.cnt.toNat < s.len.toNat - 1 → t.pst = .body ∧ t.report.frameKind = .none) ∧
    (s.pst = .body → s.cnt.toNat = s.len.toNat - 1 → b = s.csum →
      t.pst = .idle ∧ t.report.frameKind = .data) ∧
    (s.pst = .body → s.cnt.toNat = s.len.toNat - 1 → b ≠ s.csum →
      t.pst = .idle ∧ t.report.frameKind = .none)

/-- SOF and LEN_NONZERO: the start of a Data frame and its length byte (`40_frame_parser.md` R111, R116). -/
def Obligations.FrameStartResult : Prop :=
  ∀ s : State, s.rxReady = true →
    (s.pst = .idle → ∃ t, exec .sof s = .next t ∧
      t = { s with report := {}, view := t.view, pst := .len }) ∧
    (s.pst = .len → ∀ b : Byte, b ≠ 0 → ∃ t, exec (.lenNonzero b) s = .next t ∧
      t = { s with report := {}, view := t.view, len := b, cnt := 0, csum := 0xFF ^^^ b, pst := .body })

/-- ACK: in ReadingFrame reported and otherwise ignored, in AwaitingAck the success
(`40_frame_parser.md` R112, `43_handshake.md` R162, R165). -/
def Obligations.AckTagResult : Prop :=
  ∀ s : State, s.fatal = false → s.pst = .idle →
    (s.phase = .readingFrame → ∃ t, exec .ack s = .next t ∧
      t = { s with view := t.view, report := { frameKind := .ack, consumed := 1, rpt := .frameEvent } }) ∧
    (s.phase = .awaitingAck → ∃ t, exec .ack s = .next t ∧
      t = { s with view := t.view, phase := .readingFrame, retry := 0, rtxp := false,
                   report := { frameKind := .ack, consumed := 1, rpt := .frameEvent } })

/-- NACK and CAN: in ReadingFrame reported and otherwise ignored; in AwaitingAck one retransmission, or the
fatal condition with none left (`40_frame_parser.md` R113, R114, `43_handshake.md` R163, R164, R166, R170). -/
def Obligations.NackAndCanTagResult : Prop :=
  ∀ (s : State) (i : Instr) (k : FrameKind),
    ((i = .nack ∧ k = .nack) ∨ (i = .can ∧ k = .can)) → s.fatal = false → s.pst = .idle →
    (s.phase = .readingFrame → ∃ t, exec i s = .next t ∧
      t = { s with view := t.view, report := { frameKind := k, consumed := 1, rpt := .frameEvent } }) ∧
    (s.phase = .awaitingAck → s.retry.toNat < s.cfg.maxRetry.toNat → ∃ t, exec i s = .next t ∧
      t = { s with view := t.view, retry := s.retry + 1, phase := .writingMessage,
                   report := { frameKind := k, consumed := 1, rpt := .frameEvent,
                               needsWrite := .out } }) ∧
    (s.phase = .awaitingAck → s.cfg.maxRetry.toNat ≤ s.retry.toNat → ∃ t, exec i s = .next t ∧
      t = { s with view := t.view, fatal := true, fcause := .retryLimit,
                   report := { frameKind := k, consumed := 1, rpt := .fatal, err := .retryLimit } })

/-- FT_UNKNOWN and LEN_ZERO, the parser's errors before a body: one byte consumed and reported with no state
change, and two bytes consumed as a ShortMessage with nothing queued (`40_frame_parser.md` R115, R117). -/
def Obligations.HeaderErrorResult : Prop :=
  ∀ (s : State) (b : Byte), s.rxReady = true →
    (s.pst = .idle → b ≠ 0x01 → b ≠ 0x06 → b ≠ 0x15 → b ≠ 0x18 →
      ∃ t, exec (.ftUnknown b) s = .next t ∧
      t = { s with view := t.view, report := { rpt := .protocolError, err := .unknownFrameType,
                                               errTag := b, consumed := 1 } }) ∧
    (s.pst = .len → ∃ t, exec .lenZero s = .next t ∧
      t = { s with view := t.view, len := 0, cnt := 0, csum := 0xFF, pst := .idle,
                   report := { rpt := .protocolError, err := .shortMessage, consumed := 2 } })

/-- BODY_BYTE: the byte is stored at CNT and folded in, and CNT counts it (`40_frame_parser.md` R118). -/
def Obligations.BodyByteResult : Prop :=
  ∀ (s : State) (b : Byte), s.rxReady = true → s.pst = .body → s.cnt.toNat < s.len.toNat - 1 →
    ∃ t, exec (.bodyByte b) s = .next t ∧ storedOnly s.rxbuf t.rxbuf s.cnt.toNat b ∧
      t.cnt.toNat = s.cnt.toNat + 1 ∧
      t = { s with report := {}, view := t.view, rxbuf := t.rxbuf, csum := s.csum ^^^ b,
                   cnt := s.cnt + 1 }

/-- CHECKSUM_OK: the last byte is stored, PST returns to P_IDLE, the decoder's result is in the report
(`dataReport`), and the handshake takes the Data frame in the same step (`40_frame_parser.md` R119,
`42_message_decoder.md` R151, `43_handshake.md` R161, R171, R172). -/
def Obligations.ChecksumOkResult : Prop :=
  ∀ (s : State) (b : Byte) (msg : List Byte), s.fatal = false → s.pst = .body →
    s.cnt.toNat + 1 = s.len.toNat → b = s.csum → Memory.view s.rxbuf 0 s.cnt.toNat = some msg →
    (s.phase = .readingFrame → ∃ t, exec (.checksumOk b) s = .next t ∧
      storedOnly s.rxbuf t.rxbuf s.cnt.toNat b ∧
      t = { s with view := t.view, frames := t.frames, rxbuf := t.rxbuf, cnt := s.cnt + 1,
                   pst := .idle, phase := .writingAck,
                   report := { dataReport s.rom s.len msg with needsWrite := .ack } }) ∧
    (s.phase = .awaitingAck → s.retry.toNat < s.cfg.maxRetry.toNat →
      ∃ t, exec (.checksumOk b) s = .next t ∧ storedOnly s.rxbuf t.rxbuf s.cnt.toNat b ∧
      t = { s with view := t.view, frames := t.frames, rxbuf := t.rxbuf, cnt := s.cnt + 1,
                   pst := .idle, phase := .writingAck, retry := s.retry + 1, rtxp := true,
                   report := { dataReport s.rom s.len msg with needsWrite := .ack, violation := true } }) ∧
    (s.phase = .awaitingAck → s.cfg.maxRetry.toNat ≤ s.retry.toNat →
      ∃ t, exec (.checksumOk b) s = .next t ∧ storedOnly s.rxbuf t.rxbuf s.cnt.toNat b ∧
      t = { s with view := t.view, frames := t.frames, rxbuf := t.rxbuf, cnt := s.cnt + 1,
                   pst := .idle, fatal := true, fcause := .retryLimit,
                   report := { dataReport s.rom s.len msg with
                     rpt := .fatal, err := .retryLimit, violation := true } })

/-- CHECKSUM_BAD: the frame is consumed in full and not trusted; the handshake is not involved
(`40_frame_parser.md` R120). -/
def Obligations.ChecksumBadResult : Prop :=
  ∀ (s : State) (b : Byte), s.rxReady = true → s.pst = .body → s.cnt.toNat + 1 = s.len.toNat →
    b ≠ s.csum → ∃ t, exec (.checksumBad b) s = .next t ∧
      storedOnly s.rxbuf t.rxbuf s.cnt.toNat b ∧ t.report.consumed.toNat = s.len.toNat + 2 ∧
      t = { s with view := t.view, rxbuf := t.rxbuf, cnt := s.cnt + 1, pst := .idle,
                   report := { rpt := .protocolError, err := .invalidChecksum,
                               consumed := t.report.consumed } }

/-! ### The message decoder -/

/-- REQUEST, APPLICATION_UPDATE and INFO_RECEIVED consume one byte of MSG and continue with the next level's
function at the next offset; they write only the report (`42_message_decoder.md` R141, R143, R145). -/
def Obligations.LevelRowsGoOn : Prop :=
  ∀ (s : State) (t u v : Byte) (rest : List Byte), s.report.frameKind = .data →
    Rom.entry s.rom.l0 t = some .request →
    (s.message = .ok (t :: u :: rest) →
      exec .request s = .next (s.reportResult (decodeRequest s.rom (t :: u :: rest) 1))) ∧
    (Rom.entry s.rom.req u = some .applicationUpdate → s.message = .ok (t :: u :: rest) →
      exec .applicationUpdate s = .next (s.reportResult (decodeAppUpdate s.rom (t :: u :: rest) 2))) ∧
    (Rom.entry s.rom.req u = some .applicationUpdate → Rom.entry s.rom.au v = some .infoReceived →
      s.message = .ok (t :: u :: v :: rest) →
      exec .infoReceived s = .next (s.reportResult (decodeInfoReceived (t :: u :: v :: rest) 3)))

/-- INFO_RECEIVED_OPERANDS on a message `00 49 84 id rest` delivers the node id and the view of the rest, and
the three rows above it on the same message end in the same report (`42_message_decoder.md` R148). -/
def Obligations.InfoReceivedResult : Prop :=
  ∀ (s : State) (id : Byte) (rest : List Byte), s.report.frameKind = .data → s.rom = Rom.baseline →
    s.message = .ok (0x00 :: 0x49 :: 0x84 :: id :: rest) →
    exec (.infoReceivedOperands id rest) s =
      .next { s with report := { s.report with rpt := .message, msgKind := .infoReceived, nodeId := id,
                                               restOff := 4, restLen := BitVec.ofNat 8 rest.length } } ∧
    exec .infoReceived s = exec (.infoReceivedOperands id rest) s ∧
    exec .applicationUpdate s = exec (.infoReceivedOperands id rest) s ∧
    exec .request s = exec (.infoReceivedOperands id rest) s

/-- MT_UNKNOWN, RQ_UNKNOWN and AU_UNKNOWN: UnknownType, the remainder beginning at the unrecognised byte
itself (`42_message_decoder.md` R142, R144, R146). -/
def Obligations.UnknownTypeResult : Prop :=
  ∀ (s : State) (t u v : Byte) (rest : List Byte), s.report.frameKind = .data →
    (Rom.entry s.rom.l0 t = none → s.message = .ok (t :: u :: rest) →
      exec (.mtUnknown t) s =
        .next { s with report := { s.report with rpt := .protocolError, err := .unknownType, errTag := t,
                                                 remOff := 0, remLen := BitVec.ofNat 8 (rest.length + 2) } }) ∧
    (Rom.entry s.rom.l0 t = some .request → Rom.entry s.rom.req u = none →
      s.message = .ok (t :: u :: rest) →
      exec (.rqUnknown u) s =
        .next { s with report := { s.report with rpt := .protocolError, err := .unknownType, errTag := u,
                                                 remOff := 1, remLen := BitVec.ofNat 8 (rest.length + 1) } }) ∧
    (Rom.entry s.rom.l0 t = some .request → Rom.entry s.rom.req u = some .applicationUpdate →
      Rom.entry s.rom.au v = none → s.message = .ok (t :: u :: v :: rest) →
      exec (.auUnknown v) s =
        .next { s with report := { s.report with rpt := .protocolError, err := .unknownType, errTag := v,
                                                 remOff := 2, remLen := BitVec.ofNat 8 (rest.length + 1) } })

/-- RESPONSE and RS_UNKNOWN: a Response always decodes to UnknownType from offset 1, since its table, in the
baseline all unknown, recognises nothing (`42_message_decoder.md` R147). -/
def Obligations.ResponseAlwaysUnknown : Prop :=
  (Rom.entry Rom.baseline.l0 0x01 = some .response ∧ ∀ r, Rom.entry Rom.baseline.rsp r = none) ∧
  ∀ (s : State) (t r : Byte) (rest : List Byte), s.report.frameKind = .data →
    Rom.entry s.rom.l0 t = some .response → s.message = .ok (t :: r :: rest) →
    exec (.rsUnknown r) s =
      .next { s with report := { s.report with rpt := .protocolError, err := .unknownType, errTag := r,
                                               remOff := 1, remLen := BitVec.ofNat 8 (rest.length + 1) } } ∧
    exec .response s =
      .next { s with report := { s.report with rpt := .protocolError, err := .unknownType, errTag := r,
                                               remOff := 1, remLen := BitVec.ofNat 8 (rest.length + 1) } }

/-- SHORT_MESSAGE: with the baseline tables it is the result of exactly the messages of fewer than two bytes,
`00 49` and `00 49 84`, and it reports E_SHORT_MESSAGE and nothing else (`42_message_decoder.md` R150). -/
def Obligations.ShortMessageExactly : Prop :=
  ∀ (s : State) (msg : List Byte), s.report.frameKind = .data → s.rom = Rom.baseline →
    s.message = .ok msg →
    (decodeMessage s.rom msg = .shortMessage ↔
      msg.length < 2 ∨ msg = [0x00, 0x49] ∨ msg = [0x00, 0x49, 0x84]) ∧
    (msg.length < 2 ∨ msg = [0x00, 0x49] ∨ msg = [0x00, 0x49, 0x84] →
      exec .shortMessage s =
        .next { s with report := { s.report with rpt := .protocolError, err := .shortMessage } })

/-- The rows of the decoder compose: whichever row of it runs on a message, the report is the one of the
whole function on that message, and nothing else is written (`42_message_decoder.md` section 1). -/
def Obligations.DecoderRowsCompose : Prop :=
  ∀ (i : Instr) (s t : State), isDecoderRow i = true → exec i s = .next t →
    ∃ msg, s.message = .ok msg ∧ t = s.reportResult (decodeMessage s.rom msg) ∧
      t = { s with report := t.report }

/-- The decoder reads inside MSG: the views and the bytes of its result lie in it. The offset of a remainder
is the level whose table does not know the tag there, the levels above it having known theirs
(`42_message_decoder.md` sections 1 to 8). -/
def Obligations.DecodedViewsInsideMessage : Prop :=
  ∀ (rom : Rom) (msg : List Byte),
    (∀ o l t, decodeMessage rom msg = .unknownType o l t →
      o + l = msg.length ∧ msg[o]? = some t ∧ 2 ≤ msg.length ∧
      ((o = 0 ∧ Rom.entry rom.l0 t = none) ∨
       (o = 1 ∧ msg[0]?.bind (Rom.entry rom.l0) = some .request ∧ Rom.entry rom.req t = none) ∨
       (o = 1 ∧ msg[0]?.bind (Rom.entry rom.l0) = some .response ∧ Rom.entry rom.rsp t = none) ∨
       (o = 2 ∧ msg[0]?.bind (Rom.entry rom.l0) = some .request ∧
         msg[1]?.bind (Rom.entry rom.req) = some .applicationUpdate ∧ Rom.entry rom.au t = none))) ∧
    (∀ k id ro rl, decodeMessage rom msg = .message k id ro rl →
      k = .infoReceived ∧ ro = 4 ∧ ro + rl = msg.length ∧ msg[3]? = some id)

/-! ### The handshake controller -/

/-- The four rows of ReadingFrame: a Data frame is acknowledged whatever it decodes to, the byte 06 being
presented from the next state on; Ack, Nack and Cancel are reported and change nothing
(`43_handshake.md` R161 to R164). -/
def Obligations.FramesInReadingFrame : Prop :=
  ∀ s : State, s.fatal = false → s.phase = .readingFrame →
    (s.report.frameKind = .data → ∃ t, exec .dataInReadingFrame s = .next t ∧
      t = { s with phase := .writingAck, report := { s.report with needsWrite := .ack } } ∧
      t.txValid = true ∧ t.txBytes = some (.ok [0x06])) ∧
    (s.report.frameKind = .ack → exec .ackInReadingFrame s =
      .next { s with report := { s.report with rpt := .frameEvent } }) ∧
    (s.report.frameKind = .nack → exec .nackInReadingFrame s =
      .next { s with report := { s.report with rpt := .frameEvent } }) ∧
    (s.report.frameKind = .can → exec .canInReadingFrame s =
      .next { s with report := { s.report with rpt := .frameEvent } })

/-- Control frames in AwaitingAck: an Ack ends it with success whatever RETRY is; a Nack or a Cancel, with
retries left, schedules one retransmission of the same OUTBUF (`43_handshake.md` R165, R166, R170). -/
def Obligations.ControlFramesInAwaitingAck : Prop :=
  ∀ s : State, s.fatal = false → s.phase = .awaitingAck →
    (s.report.frameKind = .ack → exec .ackInAwaitingAck s =
      .next { s with phase := .readingFrame, retry := 0, rtxp := false,
                     report := { s.report with rpt := .frameEvent } }) ∧
    (s.report.frameKind = .nack → s.retry.toNat < s.cfg.maxRetry.toNat → exec .nackInAwaitingAck s =
      .next { s with retry := s.retry + 1, phase := .writingMessage,
                     report := { s.report with rpt := .frameEvent, needsWrite := .out } }) ∧
    (s.report.frameKind = .can → s.retry.toNat < s.cfg.maxRetry.toNat → exec .canInAwaitingAck s =
      .next { s with retry := s.retry + 1, phase := .writingMessage,
                     report := { s.report with rpt := .frameEvent, needsWrite := .out } })

/-- The retry limit exceeded, by a Nack, a Cancel (RETRY_LIMIT) or TIMEOUT (TIMEOUT_RETRY_LIMIT): FATAL and
FCAUSE are set, PHASE and RETRY stay, nothing is queued, and no readiness output is 1 any more
(`43_handshake.md` R169). -/
def Obligations.RetryLimitIsFatal : Prop :=
  ∀ s : State, s.fatal = false → s.phase = .awaitingAck → s.cfg.maxRetry.toNat ≤ s.retry.toNat →
    (∀ k, (k = .nack ∨ k = .can) → s.report.frameKind = k →
      ∃ t, exec (.retryLimit k) s = .next t ∧
      t = { s with fatal := true, fcause := .retryLimit,
                   report := { s.report with rpt := .fatal, err := .retryLimit } } ∧
      (s.report.needsWrite = .none → t.report.needsWrite = .none) ∧
      t.rxReady = false ∧ t.sendReady = false ∧ t.txValid = false) ∧
    (∃ t, exec .timeoutRetryLimit s = .next t ∧
      t = { s with fatal := true, fcause := .retryLimit,
                   report := { rpt := .fatal, err := .retryLimit } } ∧
      t.rxReady = false ∧ t.sendReady = false ∧ t.txValid = false)

/-- A Data frame in AwaitingAck is the protocol violation: with retries left its Ack is queued and a
retransmission is owed; with none it is fatal and no Ack is queued (`43_handshake.md` R171, R172). -/
def Obligations.DataInAwaitingAckResult : Prop :=
  ∀ s : State, s.fatal = false → s.phase = .awaitingAck → s.report.frameKind = .data →
    (s.retry.toNat < s.cfg.maxRetry.toNat → exec .dataInAwaitingAck s =
      .next { s with retry := s.retry + 1, rtxp := true, phase := .writingAck,
                     report := { s.report with violation := true, needsWrite := .ack } }) ∧
    (s.cfg.maxRetry.toNat ≤ s.retry.toNat → exec .dataInAwaitingAckLimit s =
      .next { s with fatal := true, fcause := .retryLimit,
                     report := { s.report with violation := true, rpt := .fatal, err := .retryLimit } })

/-- What is not a successfully parsed frame does not drive the handshake: the three error rows of the parser
leave PHASE, RETRY, RTXP, FATAL and FCAUSE, queue nothing and report R_PROTOCOL_ERROR
(`43_handshake.md` section 5). That the row NON_FRAME changes nothing at all, in the report and the parser
either, is the model's reading of it (log 18). -/
def Obligations.FragmentsDoNotDriveHandshake : Prop :=
  ∀ s : State,
    (∀ (i : Instr) (b : Byte) (t : State), (i = .ftUnknown b ∨ i = .lenZero ∨ i = .checksumBad b) →
      s.rxReady = true → exec i s = .next t →
      s.sameLink t ∧ t.report.needsWrite = .none ∧ t.report.rpt = .protocolError) ∧
    (s.rxReady = true → s.report.frameKind = .none → exec .nonFrame s = .next s)

/-! ### The events -/

/-- RESET, in every state: the registers of the reset state, no buffer cell holds a value, the operand is
latched and the report is all defaults (`10_state.md` R41, `70_reset_and_hazards.md` R250). LEN, CNT, CSUM and
OUTLEN are UNDEF, so nothing is said of them. -/
def Obligations.ResetResult : Prop :=
  ∀ (s : State) (cfg : Cfg), ∃ t, exec (.reset cfg) s = .next t ∧
    t.pst = .idle ∧ t.phase = .readingFrame ∧ t.retry = 0 ∧ t.rtxp = false ∧ t.fatal = false ∧
    t.fcause = .none ∧ t.cfg = cfg ∧ t.report = {} ∧
    (∀ a, Memory.read t.rxbuf a = none) ∧ (∀ a, Memory.read t.outbuf a = none) ∧
    t.rxReady = true ∧ t.sendReady = true ∧ t.txValid = false ∧ t.awaiting = false

/-- SEND with a legal length: OUTBUF and OUTLEN take the encoded frame, the retry count restarts and the frame
is queued; the parser's registers are untouched (`45_engine.md` R210, `44_frame_encoder.md` R190). -/
def Obligations.SendResult : Prop :=
  ∀ (s : State) (m : List Byte), s.sendReady = true → 1 ≤ m.length → m.length ≤ 254 →
    ∃ t, exec (.send m) s = .next t ∧ storedFrame s.outbuf t.outbuf m ∧
      t.outlen.toNat = m.length + 3 ∧
      t = { s with outbuf := t.outbuf, outlen := t.outlen, retry := 0, rtxp := false,
                   phase := .writingMessage, report := { rpt := .needsWrite, needsWrite := .out } } ∧
      t.txValid = true ∧ t.txBytes = some (.ok (encodeFrame m)) ∧ t.sendReady = false ∧
      t.rxReady = false

/-- SEND with an illegal length: consumed and refused in the report, no state change (`45_engine.md` R211). -/
def Obligations.SendRefused : Prop :=
  ∀ (s : State) (m : List Byte), s.sendReady = true → (m.length = 0 ∨ m.length = 255) →
    exec (.sendBadLength m) s = .next { s with report := { rpt := .sendRejected, err := .sendLength } }

/-- ENCODE_DATA and ENCODE_ACK, what the block transmits: the frame `01 (n+1) m CK` cell by cell with
OUTLEN = n + 3, nothing else written; and, while PHASE = WritingAck, the constant byte 06, for which OUTBUF is
not used (`44_frame_encoder.md` sections 1 and 4). That the row ENCODE_ACK itself changes nothing is the
model's reading (log 23, from `20_memory.md` section 3). -/
def Obligations.EncodeRowsResult : Prop :=
  (∀ (s : State) (m : List Byte), s.sendReady = true → 1 ≤ m.length → m.length ≤ 254 →
    ∃ t, exec (.encodeData m) s = .next t ∧ storedFrame s.outbuf t.outbuf m ∧
      t.outlen.toNat = m.length + 3 ∧ t = { s with outbuf := t.outbuf, outlen := t.outlen }) ∧
  ∀ s : State, s.fatal = false → s.phase = .writingAck →
    exec .encodeAck s = .next s ∧ s.txValid = true ∧ s.txBytes = some (.ok [0x06])

/-- The four rows of TX_DONE with FATAL = 0 (`43_handshake.md` R173 to R176). -/
def Obligations.TxDoneResult : Prop :=
  ∀ s : State, s.fatal = false →
    (s.phase = .writingMessage → ∃ t, exec .txDoneWritingMessage s = .next t ∧
      t = { s with report := {}, phase := .awaitingAck } ∧ t.awaiting = true ∧ t.rxReady = true) ∧
    (s.phase = .writingAck → s.rtxp = false → exec .txDoneWritingAck s =
      .next { s with report := {}, phase := .readingFrame }) ∧
    (s.phase = .writingAck → s.rtxp = true → exec .txDoneWritingAckRetransmit s =
      .next { s with rtxp := false, phase := .writingMessage,
                     report := { rpt := .needsWrite, needsWrite := .out } }) ∧
    (s.phase = .readingFrame ∨ s.phase = .awaitingAck → exec .txDoneSpurious s =
      .next { s with report := {} })

/-- TIMEOUT with FATAL = 0: in AwaitingAck with retries left one retransmission, elsewhere nothing
(`43_handshake.md` R167, R168). -/
def Obligations.TimeoutResult : Prop :=
  ∀ s : State, s.fatal = false →
    (s.phase = .awaitingAck → s.retry.toNat < s.cfg.maxRetry.toNat → exec .timeoutAwaitingAck s =
      .next { s with retry := s.retry + 1, phase := .writingMessage,
                     report := { rpt := .needsWrite, needsWrite := .out } }) ∧
    (s.phase = .readingFrame ∨ s.phase = .writingMessage ∨ s.phase = .writingAck →
      exec .timeoutStale s = .next { s with report := {} })

/-- XPORT_ERR is always fatal and changes FATAL, FCAUSE and the report only; no readiness output is 1 any more
(`45_engine.md` R212). -/
def Obligations.TransportErrorIsFatal : Prop :=
  ∀ s : State, s.fatal = false → ∃ t, exec .xportErr s = .next t ∧
    t = { s with fatal := true, fcause := .transport,
                 report := { rpt := .transportError, err := .transport } } ∧
    t.rxReady = false ∧ t.sendReady = false ∧ t.txValid = false ∧ t.awaiting = false

/-- While FATAL = 1: RX_BYTE and SEND are not enabled, TX_DONE, TIMEOUT and XPORT_ERR are taken and change
nothing but the report, which is all defaults, and RESET clears FATAL (`60_exceptions.md` R236). -/
def Obligations.OnlyResetWhileFatal : Prop :=
  ∀ s : State, s.fatal = true →
    s.rxReady = false ∧ s.sendReady = false ∧ s.txValid = false ∧ s.awaiting = false ∧
    (∀ b t, (Event.rxByte b, t) ∉ s.offers) ∧ (∀ m t, (Event.send m, t) ∉ s.offers) ∧
    (∀ e, exec (.anyEventWhileFatal e) s = .next { s with report := {} }) ∧
    decode (s.ctx .ev) Event.txDone.toInput = .ok (.anyEventWhileFatal .txDone) ∧
    decode (s.ctx .ev) Event.timeout.toInput = .ok (.anyEventWhileFatal .timeout) ∧
    decode (s.ctx .ev) Event.xportErr.toInput = .ok (.anyEventWhileFatal .xportErr) ∧
    ∀ cfg, ∃ t, exec (.reset cfg) s = .next t ∧ t.fatal = false

/-! ### The machine -/

/-- The state after reset has the invariant (`10_state.md` section 7). -/
def Obligations.InvHoldsAtReset : Prop :=
  State.reset.Inv

/-- Every step keeps the invariant, from every state that has it, reached or not (`10_state.md` section 7). -/
def Obligations.InvKeptByStep : Prop :=
  ∀ s t : State, s.Inv → step s = .next t → t.Inv

/-- From a state of the invariant every step answers a next state: no fault and no refusal is reachable
(`45_engine.md` section 2, `10_state.md` section 7). -/
def Obligations.StepAlwaysAnswersNext : Prop :=
  ∀ s : State, s.Inv → ∃ t, step s = .next t

/-- FATAL is sticky: while it is 1, no instruction but RESET changes anything beside the report and what waits
at the ports, so FCAUSE names the first cause (`60_exceptions.md` section 5, `10_state.md` section 3). -/
def Obligations.FatalIsSticky : Prop :=
  ∀ (i : Instr) (s t : State), s.fatal = true → (∀ cfg, i ≠ .reset cfg) → exec i s = .next t →
    t = { s with report := t.report, ports := t.ports }

/-- A step sets FATAL exactly when it reports a fatal error, E_TRANSPORT or E_RETRY_LIMIT, and then changes
neither PHASE nor RETRY nor RTXP nor the outgoing frame (`60_exceptions.md` section 4). -/
def Obligations.FatalExactlyByFatalError : Prop :=
  ∀ s t : State, s.fatal = false → s.fetch ≠ none → step s = .next t →
    (t.fatal = true ↔ t.report.err = .transport ∨ t.report.err = .retryLimit) ∧
    (t.fatal = true → t.phase = s.phase ∧ t.retry = s.retry ∧ t.rtxp = s.rtxp ∧ s.sameOut t)

/-- The access matrix: what each event leaves untouched (`10_state.md` section 8), and that no instruction
writes a table and none but RESET the configuration (`20_memory.md` section 6, log 10). -/
def Obligations.AccessMatrix : Prop :=
  ∀ s t : State,
    (∀ b, exec (.rxByte b) s = .next t → s.sameOut t ∧
      (s.pst = .idle → t.len = s.len ∧ t.cnt = s.cnt ∧ t.csum = s.csum ∧ t.rxbuf = s.rxbuf) ∧
      (s.pst = .len → t.rxbuf = s.rxbuf ∧ s.sameLink t) ∧
      (s.pst = .body → t.len = s.len) ∧
      (s.pst = .body → s.cnt.toNat + 1 < s.len.toNat → t.pst = s.pst ∧ s.sameLink t) ∧
      (s.pst = .body → s.cnt.toNat + 1 = s.len.toNat → t.csum = s.csum)) ∧
    (∀ m i, (i = .send m ∨ i = .sendBadLength m) → exec i s = .next t →
      s.sameParser t ∧ t.fatal = s.fatal ∧ t.fcause = s.fcause) ∧
    (∀ i, (i = .txDoneWritingMessage ∨ i = .txDoneWritingAck ∨ i = .txDoneWritingAckRetransmit ∨
        i = .txDoneSpurious) → exec i s = .next t →
      s.sameParser t ∧ s.sameOut t ∧ t.retry = s.retry ∧ t.fatal = s.fatal ∧ t.fcause = s.fcause) ∧
    (∀ i, (i = .timeoutAwaitingAck ∨ i = .timeoutRetryLimit ∨ i = .timeoutStale) →
      exec i s = .next t → s.sameParser t ∧ s.sameOut t ∧ t.rtxp = s.rtxp) ∧
    (exec .xportErr s = .next t → s.sameParser t ∧ s.sameOut t ∧ t.phase = s.phase ∧
      t.retry = s.retry ∧ t.rtxp = s.rtxp) ∧
    (∀ i, exec i s = .next t → t.rom = s.rom ∧ ((∀ cfg, i ≠ .reset cfg) → t.cfg = s.cfg))

/-- Half-duplex: `rx_ready` and `tx_valid` are never 1 together, and a step taken in a writing phase with no
RESET waiting consumes no byte and leaves the parser as it is (`10_state.md` section 7, `20_memory.md`
section 6). -/
def Obligations.WritingPhasesTakeNoByte : Prop :=
  ∀ s t : State, ¬ (s.rxReady = true ∧ s.txValid = true) ∧
    (s.phase.isWriting = true → s.ports.reset = [] → step s = .next t →
      s.sameParser t ∧ t.ports.rx = s.ports.rx ∧ t.ports.send = s.ports.send)

/-- The block transmits exactly two things, the one-byte Ack and Data frames of the encoder, and only while
`tx_valid = 1` (`30_encoding.md` R91). -/
def Obligations.TransmitsOnlyAckOrDataFrames : Prop :=
  ∀ s : State, s.Inv →
    (s.txValid = false → s.txBytes = none) ∧
    (s.txValid = true → s.txBytes = some (.ok [0x06]) ∨
      ∃ m, legalLength m = true ∧ s.txBytes = some (.ok (encodeFrame m)))

/-- A step that takes an event reports `needs_write` exactly when it enters a writing phase
(`30_encoding.md` section 7). -/
def Obligations.NeedsWriteMarksEntry : Prop :=
  ∀ s t : State, s.fetch ≠ none → step s = .next t →
    (t.report.needsWrite ≠ .none ↔ t.phase.isWriting = true ∧ t.phase ≠ s.phase)

/-- Retry counting: a message that is accepted and never answered is retransmitted `MAX_RETRY` times, each time
the same frame, RETRY counting them, and the next deadline is fatal (`43_handshake.md` section 6). -/
def Obligations.RetransmissionCount : Prop :=
  ∀ (s : State) (m : List Byte), s.sendReady = true → 1 ≤ m.length → m.length ≤ 254 →
    ∃ a b, s.deliver (.send m) = .next a ∧ a.deliver .txDone = .next b ∧
      (∀ n, n ≤ s.cfg.maxRetry.toNat → ∃ t, State.timeoutRounds n b = .next t ∧
        t.fatal = false ∧ t.phase = .awaitingAck ∧ t.retry.toNat = n ∧ a.sameOut t) ∧
      ∃ t u, State.timeoutRounds s.cfg.maxRetry.toNat b = .next t ∧ t.deliver .timeout = .next u ∧
        u.fatal = true ∧ u.fcause = .retryLimit ∧ u.report.rpt = .fatal ∧
        u.report.needsWrite = .none

/-- The protocol violation's recovery: after the Ack of an unexpected Data frame has been written, the message
in flight is written again, counted once, and the block awaits its answer (`43_handshake.md` sections 3
and 4). -/
def Obligations.ViolationRecovery : Prop :=
  ∀ (s : State) (b : Byte) (msg : List Byte), s.fatal = false → s.phase = .awaitingAck →
    s.retry.toNat < s.cfg.maxRetry.toNat → s.pst = .body → s.cnt.toNat + 1 = s.len.toNat →
    b = s.csum → Memory.view s.rxbuf 0 s.cnt.toNat = some msg →
    ∃ t u v, s.deliver (.rxByte b) = .next t ∧ t.deliver .txDone = .next u ∧
      u.deliver .txDone = .next v ∧
      t.txBytes = some (.ok [0x06]) ∧ t.report.violation = true ∧
      u.txBytes = some (viewOrFault s.outbuf 0 s.outlen.toNat) ∧ u.report.needsWrite = .out ∧
      v.phase = .awaitingAck ∧ v.retry = s.retry + 1 ∧ v.rtxp = false ∧ v.fatal = false ∧ s.sameOut v

/-- The status outputs as functions of the state (`10_state.md` R38), and the numeric codes of PST
(`10_state.md` section 1), of the report's fields (`30_encoding.md` section 7) and of its errors
(`60_exceptions.md` section 1). -/
def Obligations.StatusOutputs : Prop :=
  (∀ s : State,
    s.phaseOut.toNat = (match s.phase with
      | .readingFrame => 0 | .awaitingAck => 1 | .writingMessage => 2 | .writingAck => 3) ∧
    s.fcauseOut.toNat = (match s.fcause with
      | .none => 0 | .retryLimit => 1 | .transport => 2) ∧
    (s.rxReady = true ↔ s.fatal = false ∧ (s.phase = .readingFrame ∨ s.phase = .awaitingAck)) ∧
    (s.sendReady = true ↔ s.fatal = false ∧ s.phase = .readingFrame ∧ s.pst = .idle) ∧
    (s.txValid = true ↔ s.fatal = false ∧ (s.phase = .writingMessage ∨ s.phase = .writingAck)) ∧
    (s.awaiting = true ↔ s.fatal = false ∧ s.phase = .awaitingAck) ∧
    (s.fatal = false → s.phase = .writingAck → s.txBytes = some (.ok [0x06])) ∧
    (s.fatal = false → s.phase = .writingMessage →
      s.txBytes = some (viewOrFault s.outbuf 0 s.outlen.toNat)) ∧
    s.pst.code.toNat = (match s.pst with | .idle => 0 | .len => 1 | .body => 2)) ∧
  ∀ r : Report,
    r.rpt.code.toNat = (match r.rpt with
      | .none => 0 | .message => 1 | .frameEvent => 2 | .needsWrite => 3 | .protocolError => 4
      | .fatal => 5 | .transportError => 6 | .sendRejected => 7) ∧
    r.frameKind.code.toNat = (match r.frameKind with
      | .none => 0 | .data => 1 | .ack => 2 | .nack => 3 | .can => 4) ∧
    r.err.code.toNat = (match r.err with
      | .none => 0 | .shortMessage => 1 | .invalidChecksum => 2 | .unknownType => 3
      | .unknownFrameType => 4 | .transport => 5 | .protocolViolation => 6 | .retryLimit => 7
      | .sendLength => 8) ∧
    r.msgKind.code.toNat = (match r.msgKind with | .none => 0 | .infoReceived => 1) ∧
    r.needsWrite.code.toNat = (match r.needsWrite with | .none => 0 | .ack => 1 | .out => 2)

/-- The model's choice (logs 5, 11 and 14): a row executed where its condition does not hold is refused as
`notSelected` with no effect. The rows of the parser, of the events and of the handshake are refused where the
decoder does not select them, those of the message decoder outside the step that completes a Data frame and on
a message whose descent does not reach them, ENCODE_DATA and ENCODE_ACK outside their condition. RX_BYTE in
P_BODY with CNT >= LEN, for which there is no row, is refused as `bodyOverrun`. A decoder row and CHECKSUM_OK
fault where MSG cannot be read. -/
def Obligations.RowsStopWhereNotSelected : Prop :=
  ∀ (i : Instr) (s : State),
    (i.format = .ft ∨ i.format = .lenb ∨ i.format = .bodyb → s.rxReady = true →
      decode (s.ctx (formatOf s.pst)) i.encode ≠ .ok i → exec i s = .refused .notSelected) ∧
    (isDecoderRow i = true → s.report.frameKind ≠ .data → exec i s = .refused .notSelected) ∧
    (∀ msg, isDecoderRow i = true → s.report.frameKind = .data → s.message = .ok msg →
      i ∉ levelRows s.rom msg → exec i s = .refused .notSelected) ∧
    (∀ f, isDecoderRow i = true → s.report.frameKind = .data → s.message = .error f →
      exec i s = .fault f) ∧
    (i.format = .hs → decode (s.ctx .hs) (.bytes [FrameKind.byte s.report.frameKind]) ≠ .ok i →
      exec i s = .refused .notSelected) ∧
    (i.format = .ev → decode (s.ctx .ev) i.encode ≠ .ok i → exec i s = .refused .notSelected) ∧
    (∀ m, s.sendReady = false ∨ m.length = 0 ∨ 255 ≤ m.length →
      exec (.encodeData m) s = .refused .notSelected) ∧
    (s.fatal = true ∨ s.phase ≠ .writingAck → exec .encodeAck s = .refused .notSelected) ∧
    (∀ b, s.rxReady = true → s.pst = .body → s.len.toNat ≤ s.cnt.toNat →
      exec (.rxByte b) s = .refused (.undecodable .bodyOverrun)) ∧
    (∀ b, s.rxReady = true → s.pst = .body → s.cnt.toNat + 1 = s.len.toNat → b = s.csum →
      Memory.view s.rxbuf 0 s.cnt.toNat = none →
      exec (.checksumOk b) s = .fault (.undefinedCell 0))

/-! ### Frames and the checksum -/

/-- The checksum is the XOR fold over the bytes from `0xFF ^ length`, and verifying recomputes and compares
(`41_checksum.md` R130, R131). -/
def Obligations.ChecksumIsXorFold : Prop :=
  ∀ (l e : Byte) (bs : List Byte),
    checksum l bs = bs.foldl (fun a b => a ^^^ b) (0xFF ^^^ l) ∧
    (verifyChecksum l bs e = true ↔ checksum l bs = e) ∧
    verifyChecksum l bs (checksum l bs) = true

/-- What the checksum detects: changing one byte of the message always changes it, rearranging the bytes never
does, and neither does changing two of them by the same difference (`41_checksum.md` section 2). -/
def Obligations.ChecksumDetects : Prop :=
  ∀ (l : Byte) (bs : List Byte),
    (∀ i b, i < bs.length → (checksum l (bs.set i b) = checksum l bs ↔ bs[i]? = some b)) ∧
    (∀ cs, bs.Perm cs → checksum l cs = checksum l bs) ∧
    (∀ i j x y d, i ≠ j → bs[i]? = some x → bs[j]? = some y →
      checksum l ((bs.set i (x ^^^ d)).set j (y ^^^ d)) = checksum l bs)

/-- Round trip: an encoded message fed byte by byte to a parser in P_IDLE is accepted as one Data frame with
MSG = m, and in ReadingFrame it is decoded, reported and acknowledged (`44_frame_encoder.md` R192 and
`41_checksum.md` R133, both derived in the spec). -/
def Obligations.EncodedFrameRoundTrip : Prop :=
  ∀ (s : State) (m : List Byte), 1 ≤ m.length → m.length ≤ 254 → s.rxReady = true → s.pst = .idle →
    ∃ t, State.feed (encodeFrame m) s = .next t ∧
      t.pst = .idle ∧ t.len.toNat = m.length + 1 ∧ t.message = .ok m ∧
      t.report.frameKind = .data ∧ t.report.consumed.toNat = m.length + 3 ∧
      t.ports = s.ports ∧ s.sameOut t ∧
      (s.phase = .readingFrame → t.phase = .writingAck ∧
        t.report = { dataReport s.rom t.len m with needsWrite := .ack })

/-- A frame with one byte of its body changed, message or checksum, is consumed in full, reported as
InvalidChecksum and drives nothing (`41_checksum.md` R134 (a) and (b), derived in the spec). -/
def Obligations.CorruptedFrameRejected : Prop :=
  ∀ (s : State) (m : List Byte) (i : Nat) (b : Byte), 1 ≤ m.length → m.length ≤ 254 →
    s.rxReady = true → s.pst = .idle → 2 ≤ i → i < m.length + 3 → (encodeFrame m)[i]? ≠ some b →
    ∃ t, State.feed ((encodeFrame m).set i b) s = .next t ∧
      t.report = { rpt := .protocolError, err := .invalidChecksum, consumed := t.report.consumed } ∧
      t.report.consumed.toNat = m.length + 3 ∧ t.pst = .idle ∧ s.sameLink t ∧ s.sameOut t ∧
      t.ports = s.ports

/-- Byte accounting: an enabled RX_BYTE step moves the position in the unfinished frame by one and gives back
what its report says it consumed, so over any run the reports add up (`40_frame_parser.md` section 5). -/
def Obligations.ByteAccounting : Prop :=
  ∀ (s t : State) (b : Byte), s.rxReady = true → exec (.rxByte b) s = .next t →
    s.position + 1 = t.position + t.report.consumed.toNat

/-- The life of a view, in the model's fields for it (logs 13 and 26). An enabled RX_BYTE step ends every view
and, completing a Data frame, makes live the one its report gives, `rest_*` or `rem_*`, under a serial of its
own; the other events but RESET leave it and RXBUF; RESET ends it. A read by the live view answers the cells it
names, and a read by any other is refused: an expired view never comes to life again, whatever its offset and
length (`70_reset_and_hazards.md` section 3, `20_memory.md` section 5). -/
def Obligations.ViewLife : Prop :=
  ∀ s t : State,
    (∀ b, s.rxReady = true → exec (.rxByte b) s = .next t →
      (t.report.frameKind ≠ .data → t.view = none ∧ t.frames = s.frames) ∧
      (t.report.frameKind = .data → t.frames = s.frames + 1 ∧
        t.view =
          if t.report.msgKind = .infoReceived then
            some { serial := t.frames, off := t.report.restOff, len := t.report.restLen }
          else if t.report.remLen ≠ 0 then
            some { serial := t.frames, off := t.report.remOff, len := t.report.remLen }
          else none)) ∧
    (∀ i, i.format = .ev → (∀ b, i ≠ .rxByte b) → (∀ cfg, i ≠ .reset cfg) → exec i s = .next t →
      t.view = s.view ∧ t.frames = s.frames ∧ t.rxbuf = s.rxbuf) ∧
    (∀ cfg, exec (.reset cfg) s = .next t → t.view = none ∧ t.frames = s.frames) ∧
    (∀ v, s.Inv → s.view = some v → ∃ bs, s.readView v = .ok bs ∧
      Memory.view s.rxbuf v.off.toNat v.len.toNat = some bs ∧ bs.length = v.len.toNat) ∧
    (∀ v, s.view ≠ some v → s.readView v = .error .viewExpired) ∧
    (∀ v, v.serial ≤ s.frames → s.view ≠ some v → step s = .next t →
      t.view ≠ some v ∧ v.serial ≤ t.frames) ∧
    (∀ v b, s.Inv → s.view = some v → s.rxReady = true → exec (.rxByte b) s = .next t →
      t.readView v = .error .viewExpired ∧ v.serial ≤ t.frames)
end

