-- ==== Sys2Proof/Laws/Memory.lean ====
section
/-! SUPPORT. The laws of the buffers: a read after a write, views after writes, and that every operation
keeps the canonical form. -/

namespace Sys2Proof.Machine

theorem Memory.read_write (m : Memory) (a : Nat) (b : Byte) (x : Nat) :
    Memory.read (Memory.write m a b) x = if x = a then some b else Memory.read m x := by
  induction m with
  | nil => simp [Memory.write, Memory.read, eq_comm]
  | cons c m ih =>
    obtain ⟨k, v⟩ := c
    by_cases h1 : a < k
    · by_cases hx : x = a
      · subst hx; simp [Memory.write, Memory.read, h1]
      · simp [Memory.write, Memory.read, h1, hx, Ne.symm hx]
    · by_cases h2 : a = k
      · subst h2
        by_cases hx : x = a
        · subst hx; simp [Memory.write, Memory.read]
        · simp [Memory.write, Memory.read, hx, Ne.symm hx]
      · by_cases hk : k = x
        · subst hk; simp [Memory.write, Memory.read, h1, h2, Ne.symm h2]
        · simp [Memory.write, Memory.read, h1, h2, hk, ih]

@[simp] theorem Memory.read_write_same (m : Memory) (a : Nat) (b : Byte) :
    Memory.read (Memory.write m a b) a = some b := by
  simp [Memory.read_write]

theorem Memory.read_write_other (m : Memory) (a : Nat) (b : Byte) {x : Nat} (h : x ≠ a) :
    Memory.read (Memory.write m a b) x = Memory.read m x := by
  simp [Memory.read_write, h]

/-! ### Views -/

theorem Memory.view_length {m : Memory} {n off : Nat} {bs : List Byte}
    (h : Memory.view m off n = some bs) : bs.length = n := by
  induction n generalizing off bs with
  | zero => simp [Memory.view] at h; simp [← h]
  | succ n ih =>
    simp only [Memory.view] at h
    split at h
    · rename_i b bs' _ hbs
      cases h
      simp [ih hbs]
    · cases h

/-- A view depends only on the cells it names. -/
theorem Memory.view_congr {m m' : Memory} {n off : Nat}
    (h : ∀ i, off ≤ i → i < off + n → Memory.read m i = Memory.read m' i) :
    Memory.view m off n = Memory.view m' off n := by
  induction n generalizing off with
  | zero => rfl
  | succ n ih =>
    simp only [Memory.view]
    rw [h off (by omega) (by omega), ih (fun i h1 h2 => h i (by omega) (by omega))]

/-- A write outside a view leaves it alone. -/
theorem Memory.view_write_outside (m : Memory) {a off n : Nat} (b : Byte) (h : a < off ∨ off + n ≤ a) :
    Memory.view (Memory.write m a b) off n = Memory.view m off n :=
  Memory.view_congr fun i h1 h2 => Memory.read_write_other m a b (by omega)

theorem Memory.view_succ_last (m : Memory) (off n : Nat) :
    Memory.view m off (n + 1) =
      match Memory.view m off n, Memory.read m (off + n) with
      | some bs, some b => some (bs ++ [b])
      | _, _ => none := by
  induction n generalizing off with
  | zero => cases h : Memory.read m off <;> simp [Memory.view, h]
  | succ n ih =>
    have e : off + 1 + n = off + (n + 1) := by omega
    rw [Memory.view, ih (off + 1), e, Memory.view]
    cases Memory.read m off <;> cases Memory.view m (off + 1) n <;>
      cases Memory.read m (off + (n + 1)) <;> rfl

/-- Storing the byte after a view extends the view by it. -/
theorem Memory.view_write_last {m : Memory} {off n : Nat} {bs : List Byte} (b : Byte)
    (h : Memory.view m off n = some bs) :
    Memory.view (Memory.write m (off + n) b) off (n + 1) = some (bs ++ [b]) := by
  rw [Memory.view_succ_last, Memory.view_write_outside _ _ (by omega), h, Memory.read_write_same]

/-- A prefix of a view that can be read can be read. -/
theorem Memory.view_take {m : Memory} {off n : Nat} {bs : List Byte} (h : Memory.view m off n = some bs)
    {k : Nat} (hk : k ≤ n) : Memory.view m off k = some (bs.take k) := by
  induction k generalizing off n bs with
  | zero => simp [Memory.view]
  | succ k ih =>
    obtain ⟨n, rfl⟩ : ∃ n', n = n' + 1 := ⟨n - 1, by omega⟩
    simp only [Memory.view] at h ⊢
    split at h
    · rename_i b bs' hb hbs
      cases h
      simp [hb, ih hbs (by omega)]
    · cases h

/-- A suffix of a view that can be read can be read. -/
theorem Memory.view_drop {m : Memory} {off n : Nat} {bs : List Byte} (h : Memory.view m off n = some bs)
    {k : Nat} (hk : k ≤ n) : Memory.view m (off + k) (n - k) = some (bs.drop k) := by
  induction k generalizing off n bs with
  | zero => simpa using h
  | succ k ih =>
    obtain ⟨n, rfl⟩ : ∃ n', n = n' + 1 := ⟨n - 1, by omega⟩
    simp only [Memory.view] at h
    split at h
    · rename_i b bs' hb hbs
      cases h
      have := ih hbs (by omega)
      rw [show off + 1 + k = off + (k + 1) by omega] at this
      simpa [Nat.add_sub_add_right] using this
    · cases h

theorem Memory.read_of_view {m : Memory} {off n : Nat} {bs : List Byte}
    (h : Memory.view m off n = some bs) {i : Nat} (hi : i < n) :
    Memory.read m (off + i) = bs[i]? := by
  induction n generalizing off bs i with
  | zero => omega
  | succ n ih =>
    simp only [Memory.view] at h
    split at h
    · rename_i b bs' hb hbs
      cases h
      cases i with
      | zero => simpa using hb
      | succ i =>
        rw [show off + (i + 1) = off + 1 + i by omega, ih hbs (by omega)]
        simp
    · cases h

/-! ### Writing a sequence -/

theorem Memory.read_writeList_outside (m : Memory) {off : Nat} (bs : List Byte) {x : Nat}
    (h : x < off ∨ off + bs.length ≤ x) :
    Memory.read (Memory.writeList m off bs) x = Memory.read m x := by
  induction bs generalizing m off with
  | nil => rfl
  | cons b bs ih =>
    simp only [Memory.writeList, List.length_cons] at *
    rw [ih _ (by omega), Memory.read_write_other _ _ _ (by omega)]

theorem Memory.view_writeList (m : Memory) (off : Nat) (bs : List Byte) :
    Memory.view (Memory.writeList m off bs) off bs.length = some bs := by
  induction bs generalizing m off with
  | nil => rfl
  | cons b bs ih =>
    simp only [Memory.writeList, List.length_cons, Memory.view, ih]
    rw [Memory.read_writeList_outside _ _ (by omega), Memory.read_write_same]

/-! ### The canonical form -/

theorem Memory.risingFrom_mono {m : Memory} {lo lo' : Nat} (h : lo' ≤ lo)
    (w : Memory.risingFrom lo m = true) : Memory.risingFrom lo' m = true := by
  cases m with
  | nil => rfl
  | cons c m =>
    obtain ⟨k, v⟩ := c
    simp only [Memory.risingFrom, Bool.and_eq_true, decide_eq_true_eq] at w ⊢
    exact ⟨by omega, w.2⟩

theorem Memory.risingFrom_write {m : Memory} {lo a : Nat} (b : Byte) (h : lo ≤ a)
    (w : Memory.risingFrom lo m = true) : Memory.risingFrom lo (Memory.write m a b) = true := by
  induction m generalizing lo with
  | nil => simp [Memory.write, Memory.risingFrom, h]
  | cons c m ih =>
    obtain ⟨k, v⟩ := c
    simp only [Memory.risingFrom, Bool.and_eq_true, decide_eq_true_eq] at w
    by_cases h1 : a < k
    · simp [Memory.write, Memory.risingFrom, h1, h, w.2]
    · by_cases h2 : a = k
      · simp [Memory.write, Memory.risingFrom, h2, w.1, w.2]
      · simp [Memory.write, Memory.risingFrom, h1, h2, w.1, ih (by omega) w.2]

theorem Memory.all_write {m : Memory} {size a : Nat} (b : Byte) (h : a < size)
    (w : (m.all fun c => decide (c.1 < size)) = true) :
    ((Memory.write m a b).all fun c => decide (c.1 < size)) = true := by
  induction m with
  | nil => simp [Memory.write, h]
  | cons c m ih =>
    obtain ⟨k, v⟩ := c
    simp only [List.all_cons, Bool.and_eq_true, decide_eq_true_eq] at w
    simp only [Memory.write]
    split
    · simp [h, w.1, w.2]
    · split
      · simp [h, w.2]
      · simp only [List.all_cons, Bool.and_eq_true, decide_eq_true_eq]
        exact ⟨w.1, ih w.2⟩

/-- The empty buffer is canonical. -/
@[simp] theorem Memory.wf_nil (size : Nat) : Memory.wf size [] = true := rfl

/-- A write inside the buffer keeps the canonical form. -/
theorem Memory.wf_write {size : Nat} {m : Memory} {a : Nat} (b : Byte) (h : a < size)
    (w : Memory.wf size m = true) : Memory.wf size (Memory.write m a b) = true := by
  simp only [Memory.wf, Bool.and_eq_true] at w ⊢
  exact ⟨Memory.risingFrom_write b (Nat.zero_le a) w.1, Memory.all_write b h w.2⟩

/-- A sequence written inside the buffer keeps the canonical form. -/
theorem Memory.wf_writeList {size : Nat} {m : Memory} {off : Nat} (bs : List Byte)
    (h : off + bs.length ≤ size) (w : Memory.wf size m = true) :
    Memory.wf size (Memory.writeList m off bs) = true := by
  induction bs generalizing m off with
  | nil => exact w
  | cons b bs ih =>
    simp only [List.length_cons] at h
    exact ih (by omega) (Memory.wf_write b (by omega) w)

end Sys2Proof.Machine
end

