-- ==== Sys2Proof/Laws/State.lean ====
section
/-! SUPPORT. One lemma per field per update of the state, so that no later proof unfolds an update. -/

namespace Sys2Proof.Machine

/-! ### State.begin -/
@[simp] theorem State.begin_pst (s : State) : (s.begin).pst = s.pst := rfl
@[simp] theorem State.begin_len (s : State) : (s.begin).len = s.len := rfl
@[simp] theorem State.begin_cnt (s : State) : (s.begin).cnt = s.cnt := rfl
@[simp] theorem State.begin_csum (s : State) : (s.begin).csum = s.csum := rfl
@[simp] theorem State.begin_rxbuf (s : State) : (s.begin).rxbuf = s.rxbuf := rfl
@[simp] theorem State.begin_phase (s : State) : (s.begin).phase = s.phase := rfl
@[simp] theorem State.begin_retry (s : State) : (s.begin).retry = s.retry := rfl
@[simp] theorem State.begin_rtxp (s : State) : (s.begin).rtxp = s.rtxp := rfl
@[simp] theorem State.begin_fatal (s : State) : (s.begin).fatal = s.fatal := rfl
@[simp] theorem State.begin_fcause (s : State) : (s.begin).fcause = s.fcause := rfl
@[simp] theorem State.begin_outbuf (s : State) : (s.begin).outbuf = s.outbuf := rfl
@[simp] theorem State.begin_outlen (s : State) : (s.begin).outlen = s.outlen := rfl
@[simp] theorem State.begin_cfg (s : State) : (s.begin).cfg = s.cfg := rfl
@[simp] theorem State.begin_rom (s : State) : (s.begin).rom = s.rom := rfl
@[simp] theorem State.begin_report (s : State) : (s.begin).report = {} := rfl
@[simp] theorem State.begin_view (s : State) : (s.begin).view = s.view := rfl
@[simp] theorem State.begin_frames (s : State) : (s.begin).frames = s.frames := rfl
@[simp] theorem State.begin_ports (s : State) : (s.begin).ports = s.ports := rfl
@[simp] theorem State.begin_draws (s : State) : (s.begin).draws = s.draws := rfl

/-! ### State.beginRx -/
@[simp] theorem State.beginRx_pst (s : State) : (s.beginRx).pst = s.pst := rfl
@[simp] theorem State.beginRx_len (s : State) : (s.beginRx).len = s.len := rfl
@[simp] theorem State.beginRx_cnt (s : State) : (s.beginRx).cnt = s.cnt := rfl
@[simp] theorem State.beginRx_csum (s : State) : (s.beginRx).csum = s.csum := rfl
@[simp] theorem State.beginRx_rxbuf (s : State) : (s.beginRx).rxbuf = s.rxbuf := rfl
@[simp] theorem State.beginRx_phase (s : State) : (s.beginRx).phase = s.phase := rfl
@[simp] theorem State.beginRx_retry (s : State) : (s.beginRx).retry = s.retry := rfl
@[simp] theorem State.beginRx_rtxp (s : State) : (s.beginRx).rtxp = s.rtxp := rfl
@[simp] theorem State.beginRx_fatal (s : State) : (s.beginRx).fatal = s.fatal := rfl
@[simp] theorem State.beginRx_fcause (s : State) : (s.beginRx).fcause = s.fcause := rfl
@[simp] theorem State.beginRx_outbuf (s : State) : (s.beginRx).outbuf = s.outbuf := rfl
@[simp] theorem State.beginRx_outlen (s : State) : (s.beginRx).outlen = s.outlen := rfl
@[simp] theorem State.beginRx_cfg (s : State) : (s.beginRx).cfg = s.cfg := rfl
@[simp] theorem State.beginRx_rom (s : State) : (s.beginRx).rom = s.rom := rfl
@[simp] theorem State.beginRx_report (s : State) : (s.beginRx).report = {} := rfl
@[simp] theorem State.beginRx_view (s : State) : (s.beginRx).view = none := rfl
@[simp] theorem State.beginRx_frames (s : State) : (s.beginRx).frames = s.frames := rfl
@[simp] theorem State.beginRx_ports (s : State) : (s.beginRx).ports = s.ports := rfl
@[simp] theorem State.beginRx_draws (s : State) : (s.beginRx).draws = s.draws := rfl

/-! ### State.raise -/
@[simp] theorem State.raise_pst (s : State) (e : Err) (r : Rpt) : (s.raise e r).pst = s.pst := rfl
@[simp] theorem State.raise_len (s : State) (e : Err) (r : Rpt) : (s.raise e r).len = s.len := rfl
@[simp] theorem State.raise_cnt (s : State) (e : Err) (r : Rpt) : (s.raise e r).cnt = s.cnt := rfl
@[simp] theorem State.raise_csum (s : State) (e : Err) (r : Rpt) : (s.raise e r).csum = s.csum := rfl
@[simp] theorem State.raise_rxbuf (s : State) (e : Err) (r : Rpt) : (s.raise e r).rxbuf = s.rxbuf := rfl
@[simp] theorem State.raise_phase (s : State) (e : Err) (r : Rpt) : (s.raise e r).phase = s.phase := rfl
@[simp] theorem State.raise_retry (s : State) (e : Err) (r : Rpt) : (s.raise e r).retry = s.retry := rfl
@[simp] theorem State.raise_rtxp (s : State) (e : Err) (r : Rpt) : (s.raise e r).rtxp = s.rtxp := rfl
@[simp] theorem State.raise_fatal (s : State) (e : Err) (r : Rpt) : (s.raise e r).fatal = s.fatal := rfl
@[simp] theorem State.raise_fcause (s : State) (e : Err) (r : Rpt) : (s.raise e r).fcause = s.fcause := rfl
@[simp] theorem State.raise_outbuf (s : State) (e : Err) (r : Rpt) : (s.raise e r).outbuf = s.outbuf := rfl
@[simp] theorem State.raise_outlen (s : State) (e : Err) (r : Rpt) : (s.raise e r).outlen = s.outlen := rfl
@[simp] theorem State.raise_cfg (s : State) (e : Err) (r : Rpt) : (s.raise e r).cfg = s.cfg := rfl
@[simp] theorem State.raise_rom (s : State) (e : Err) (r : Rpt) : (s.raise e r).rom = s.rom := rfl
@[simp] theorem State.raise_report (s : State) (e : Err) (r : Rpt) : (s.raise e r).report = { s.report with err := e, rpt := r } := rfl
@[simp] theorem State.raise_view (s : State) (e : Err) (r : Rpt) : (s.raise e r).view = s.view := rfl
@[simp] theorem State.raise_frames (s : State) (e : Err) (r : Rpt) : (s.raise e r).frames = s.frames := rfl
@[simp] theorem State.raise_ports (s : State) (e : Err) (r : Rpt) : (s.raise e r).ports = s.ports := rfl
@[simp] theorem State.raise_draws (s : State) (e : Err) (r : Rpt) : (s.raise e r).draws = s.draws := rfl

/-! ### State.enterFatal -/
@[simp] theorem State.enterFatal_pst (s : State) (c : FCause) (e : Err) (r : Rpt) : (s.enterFatal c e r).pst = s.pst := rfl
@[simp] theorem State.enterFatal_len (s : State) (c : FCause) (e : Err) (r : Rpt) : (s.enterFatal c e r).len = s.len := rfl
@[simp] theorem State.enterFatal_cnt (s : State) (c : FCause) (e : Err) (r : Rpt) : (s.enterFatal c e r).cnt = s.cnt := rfl
@[simp] theorem State.enterFatal_csum (s : State) (c : FCause) (e : Err) (r : Rpt) : (s.enterFatal c e r).csum = s.csum := rfl
@[simp] theorem State.enterFatal_rxbuf (s : State) (c : FCause) (e : Err) (r : Rpt) : (s.enterFatal c e r).rxbuf = s.rxbuf := rfl
@[simp] theorem State.enterFatal_phase (s : State) (c : FCause) (e : Err) (r : Rpt) : (s.enterFatal c e r).phase = s.phase := rfl
@[simp] theorem State.enterFatal_retry (s : State) (c : FCause) (e : Err) (r : Rpt) : (s.enterFatal c e r).retry = s.retry := rfl
@[simp] theorem State.enterFatal_rtxp (s : State) (c : FCause) (e : Err) (r : Rpt) : (s.enterFatal c e r).rtxp = s.rtxp := rfl
@[simp] theorem State.enterFatal_fatal (s : State) (c : FCause) (e : Err) (r : Rpt) : (s.enterFatal c e r).fatal = true := rfl
@[simp] theorem State.enterFatal_fcause (s : State) (c : FCause) (e : Err) (r : Rpt) : (s.enterFatal c e r).fcause = c := rfl
@[simp] theorem State.enterFatal_outbuf (s : State) (c : FCause) (e : Err) (r : Rpt) : (s.enterFatal c e r).outbuf = s.outbuf := rfl
@[simp] theorem State.enterFatal_outlen (s : State) (c : FCause) (e : Err) (r : Rpt) : (s.enterFatal c e r).outlen = s.outlen := rfl
@[simp] theorem State.enterFatal_cfg (s : State) (c : FCause) (e : Err) (r : Rpt) : (s.enterFatal c e r).cfg = s.cfg := rfl
@[simp] theorem State.enterFatal_rom (s : State) (c : FCause) (e : Err) (r : Rpt) : (s.enterFatal c e r).rom = s.rom := rfl
@[simp] theorem State.enterFatal_report (s : State) (c : FCause) (e : Err) (r : Rpt) : (s.enterFatal c e r).report = { s.report with err := e, rpt := r } := rfl
@[simp] theorem State.enterFatal_view (s : State) (c : FCause) (e : Err) (r : Rpt) : (s.enterFatal c e r).view = s.view := rfl
@[simp] theorem State.enterFatal_frames (s : State) (c : FCause) (e : Err) (r : Rpt) : (s.enterFatal c e r).frames = s.frames := rfl
@[simp] theorem State.enterFatal_ports (s : State) (c : FCause) (e : Err) (r : Rpt) : (s.enterFatal c e r).ports = s.ports := rfl
@[simp] theorem State.enterFatal_draws (s : State) (c : FCause) (e : Err) (r : Rpt) : (s.enterFatal c e r).draws = s.draws := rfl

/-! ### State.reopen -/
@[simp] theorem State.reopen_pst (s : State) (c : Cfg) : (s.reopen c).pst = .idle := rfl
@[simp] theorem State.reopen_len (s : State) (c : Cfg) : (s.reopen c).len = Config.undefByte s.draws := rfl
@[simp] theorem State.reopen_cnt (s : State) (c : Cfg) : (s.reopen c).cnt = Config.undefByte (s.draws + 1) := rfl
@[simp] theorem State.reopen_csum (s : State) (c : Cfg) : (s.reopen c).csum = Config.undefByte (s.draws + 2) := rfl
@[simp] theorem State.reopen_rxbuf (s : State) (c : Cfg) : (s.reopen c).rxbuf = [] := rfl
@[simp] theorem State.reopen_phase (s : State) (c : Cfg) : (s.reopen c).phase = .readingFrame := rfl
@[simp] theorem State.reopen_retry (s : State) (c : Cfg) : (s.reopen c).retry = 0 := rfl
@[simp] theorem State.reopen_rtxp (s : State) (c : Cfg) : (s.reopen c).rtxp = false := rfl
@[simp] theorem State.reopen_fatal (s : State) (c : Cfg) : (s.reopen c).fatal = false := rfl
@[simp] theorem State.reopen_fcause (s : State) (c : Cfg) : (s.reopen c).fcause = .none := rfl
@[simp] theorem State.reopen_outbuf (s : State) (c : Cfg) : (s.reopen c).outbuf = [] := rfl
@[simp] theorem State.reopen_outlen (s : State) (c : Cfg) : (s.reopen c).outlen = Config.undefCount s.draws := rfl
@[simp] theorem State.reopen_cfg (s : State) (c : Cfg) : (s.reopen c).cfg = c := rfl
@[simp] theorem State.reopen_rom (s : State) (c : Cfg) : (s.reopen c).rom = s.rom := rfl
@[simp] theorem State.reopen_report (s : State) (c : Cfg) : (s.reopen c).report = {} := rfl
@[simp] theorem State.reopen_view (s : State) (c : Cfg) : (s.reopen c).view = none := rfl
@[simp] theorem State.reopen_frames (s : State) (c : Cfg) : (s.reopen c).frames = s.frames := rfl
@[simp] theorem State.reopen_ports (s : State) (c : Cfg) : (s.reopen c).ports = s.ports := rfl
@[simp] theorem State.reopen_draws (s : State) (c : Cfg) : (s.reopen c).draws = s.draws + 3 := rfl

/-! ### State.holdByte -/
@[simp] theorem State.holdByte_pst (s : State) (b : Byte) : (s.holdByte b).pst = s.pst := rfl
@[simp] theorem State.holdByte_len (s : State) (b : Byte) : (s.holdByte b).len = s.len := rfl
@[simp] theorem State.holdByte_cnt (s : State) (b : Byte) : (s.holdByte b).cnt = s.cnt := rfl
@[simp] theorem State.holdByte_csum (s : State) (b : Byte) : (s.holdByte b).csum = s.csum := rfl
@[simp] theorem State.holdByte_rxbuf (s : State) (b : Byte) : (s.holdByte b).rxbuf = s.rxbuf := rfl
@[simp] theorem State.holdByte_phase (s : State) (b : Byte) : (s.holdByte b).phase = s.phase := rfl
@[simp] theorem State.holdByte_retry (s : State) (b : Byte) : (s.holdByte b).retry = s.retry := rfl
@[simp] theorem State.holdByte_rtxp (s : State) (b : Byte) : (s.holdByte b).rtxp = s.rtxp := rfl
@[simp] theorem State.holdByte_fatal (s : State) (b : Byte) : (s.holdByte b).fatal = s.fatal := rfl
@[simp] theorem State.holdByte_fcause (s : State) (b : Byte) : (s.holdByte b).fcause = s.fcause := rfl
@[simp] theorem State.holdByte_outbuf (s : State) (b : Byte) : (s.holdByte b).outbuf = s.outbuf := rfl
@[simp] theorem State.holdByte_outlen (s : State) (b : Byte) : (s.holdByte b).outlen = s.outlen := rfl
@[simp] theorem State.holdByte_cfg (s : State) (b : Byte) : (s.holdByte b).cfg = s.cfg := rfl
@[simp] theorem State.holdByte_rom (s : State) (b : Byte) : (s.holdByte b).rom = s.rom := rfl
@[simp] theorem State.holdByte_report (s : State) (b : Byte) : (s.holdByte b).report = s.report := rfl
@[simp] theorem State.holdByte_view (s : State) (b : Byte) : (s.holdByte b).view = s.view := rfl
@[simp] theorem State.holdByte_frames (s : State) (b : Byte) : (s.holdByte b).frames = s.frames := rfl
@[simp] theorem State.holdByte_ports (s : State) (b : Byte) : (s.holdByte b).ports = { s.ports with rx := b :: s.ports.rx } := rfl
@[simp] theorem State.holdByte_draws (s : State) (b : Byte) : (s.holdByte b).draws = s.draws := rfl

/-! ### State.holdSend -/
@[simp] theorem State.holdSend_pst (s : State) (m : List Byte) : (s.holdSend m).pst = s.pst := rfl
@[simp] theorem State.holdSend_len (s : State) (m : List Byte) : (s.holdSend m).len = s.len := rfl
@[simp] theorem State.holdSend_cnt (s : State) (m : List Byte) : (s.holdSend m).cnt = s.cnt := rfl
@[simp] theorem State.holdSend_csum (s : State) (m : List Byte) : (s.holdSend m).csum = s.csum := rfl
@[simp] theorem State.holdSend_rxbuf (s : State) (m : List Byte) : (s.holdSend m).rxbuf = s.rxbuf := rfl
@[simp] theorem State.holdSend_phase (s : State) (m : List Byte) : (s.holdSend m).phase = s.phase := rfl
@[simp] theorem State.holdSend_retry (s : State) (m : List Byte) : (s.holdSend m).retry = s.retry := rfl
@[simp] theorem State.holdSend_rtxp (s : State) (m : List Byte) : (s.holdSend m).rtxp = s.rtxp := rfl
@[simp] theorem State.holdSend_fatal (s : State) (m : List Byte) : (s.holdSend m).fatal = s.fatal := rfl
@[simp] theorem State.holdSend_fcause (s : State) (m : List Byte) : (s.holdSend m).fcause = s.fcause := rfl
@[simp] theorem State.holdSend_outbuf (s : State) (m : List Byte) : (s.holdSend m).outbuf = s.outbuf := rfl
@[simp] theorem State.holdSend_outlen (s : State) (m : List Byte) : (s.holdSend m).outlen = s.outlen := rfl
@[simp] theorem State.holdSend_cfg (s : State) (m : List Byte) : (s.holdSend m).cfg = s.cfg := rfl
@[simp] theorem State.holdSend_rom (s : State) (m : List Byte) : (s.holdSend m).rom = s.rom := rfl
@[simp] theorem State.holdSend_report (s : State) (m : List Byte) : (s.holdSend m).report = s.report := rfl
@[simp] theorem State.holdSend_view (s : State) (m : List Byte) : (s.holdSend m).view = s.view := rfl
@[simp] theorem State.holdSend_frames (s : State) (m : List Byte) : (s.holdSend m).frames = s.frames := rfl
@[simp] theorem State.holdSend_ports (s : State) (m : List Byte) : (s.holdSend m).ports = { s.ports with send := m :: s.ports.send } := rfl
@[simp] theorem State.holdSend_draws (s : State) (m : List Byte) : (s.holdSend m).draws = s.draws := rfl

/-! ### State.completeFrame -/
@[simp] theorem State.completeFrame_pst (s : State) (k : FrameKind) (n : Count9) : (s.completeFrame k n).pst = s.pst := rfl
@[simp] theorem State.completeFrame_len (s : State) (k : FrameKind) (n : Count9) : (s.completeFrame k n).len = s.len := rfl
@[simp] theorem State.completeFrame_cnt (s : State) (k : FrameKind) (n : Count9) : (s.completeFrame k n).cnt = s.cnt := rfl
@[simp] theorem State.completeFrame_csum (s : State) (k : FrameKind) (n : Count9) : (s.completeFrame k n).csum = s.csum := rfl
@[simp] theorem State.completeFrame_rxbuf (s : State) (k : FrameKind) (n : Count9) : (s.completeFrame k n).rxbuf = s.rxbuf := rfl
@[simp] theorem State.completeFrame_phase (s : State) (k : FrameKind) (n : Count9) : (s.completeFrame k n).phase = s.phase := rfl
@[simp] theorem State.completeFrame_retry (s : State) (k : FrameKind) (n : Count9) : (s.completeFrame k n).retry = s.retry := rfl
@[simp] theorem State.completeFrame_rtxp (s : State) (k : FrameKind) (n : Count9) : (s.completeFrame k n).rtxp = s.rtxp := rfl
@[simp] theorem State.completeFrame_fatal (s : State) (k : FrameKind) (n : Count9) : (s.completeFrame k n).fatal = s.fatal := rfl
@[simp] theorem State.completeFrame_fcause (s : State) (k : FrameKind) (n : Count9) : (s.completeFrame k n).fcause = s.fcause := rfl
@[simp] theorem State.completeFrame_outbuf (s : State) (k : FrameKind) (n : Count9) : (s.completeFrame k n).outbuf = s.outbuf := rfl
@[simp] theorem State.completeFrame_outlen (s : State) (k : FrameKind) (n : Count9) : (s.completeFrame k n).outlen = s.outlen := rfl
@[simp] theorem State.completeFrame_cfg (s : State) (k : FrameKind) (n : Count9) : (s.completeFrame k n).cfg = s.cfg := rfl
@[simp] theorem State.completeFrame_rom (s : State) (k : FrameKind) (n : Count9) : (s.completeFrame k n).rom = s.rom := rfl
@[simp] theorem State.completeFrame_report (s : State) (k : FrameKind) (n : Count9) : (s.completeFrame k n).report = { s.report with frameKind := k, consumed := n } := rfl
@[simp] theorem State.completeFrame_view (s : State) (k : FrameKind) (n : Count9) : (s.completeFrame k n).view = s.view := rfl
@[simp] theorem State.completeFrame_frames (s : State) (k : FrameKind) (n : Count9) : (s.completeFrame k n).frames = s.frames := rfl
@[simp] theorem State.completeFrame_ports (s : State) (k : FrameKind) (n : Count9) : (s.completeFrame k n).ports = s.ports := rfl
@[simp] theorem State.completeFrame_draws (s : State) (k : FrameKind) (n : Count9) : (s.completeFrame k n).draws = s.draws := rfl

/-! ### State.consume -/
@[simp] theorem State.consume_pst (s : State) (n : Count9) : (s.consume n).pst = s.pst := rfl
@[simp] theorem State.consume_len (s : State) (n : Count9) : (s.consume n).len = s.len := rfl
@[simp] theorem State.consume_cnt (s : State) (n : Count9) : (s.consume n).cnt = s.cnt := rfl
@[simp] theorem State.consume_csum (s : State) (n : Count9) : (s.consume n).csum = s.csum := rfl
@[simp] theorem State.consume_rxbuf (s : State) (n : Count9) : (s.consume n).rxbuf = s.rxbuf := rfl
@[simp] theorem State.consume_phase (s : State) (n : Count9) : (s.consume n).phase = s.phase := rfl
@[simp] theorem State.consume_retry (s : State) (n : Count9) : (s.consume n).retry = s.retry := rfl
@[simp] theorem State.consume_rtxp (s : State) (n : Count9) : (s.consume n).rtxp = s.rtxp := rfl
@[simp] theorem State.consume_fatal (s : State) (n : Count9) : (s.consume n).fatal = s.fatal := rfl
@[simp] theorem State.consume_fcause (s : State) (n : Count9) : (s.consume n).fcause = s.fcause := rfl
@[simp] theorem State.consume_outbuf (s : State) (n : Count9) : (s.consume n).outbuf = s.outbuf := rfl
@[simp] theorem State.consume_outlen (s : State) (n : Count9) : (s.consume n).outlen = s.outlen := rfl
@[simp] theorem State.consume_cfg (s : State) (n : Count9) : (s.consume n).cfg = s.cfg := rfl
@[simp] theorem State.consume_rom (s : State) (n : Count9) : (s.consume n).rom = s.rom := rfl
@[simp] theorem State.consume_report (s : State) (n : Count9) : (s.consume n).report = { s.report with consumed := n } := rfl
@[simp] theorem State.consume_view (s : State) (n : Count9) : (s.consume n).view = s.view := rfl
@[simp] theorem State.consume_frames (s : State) (n : Count9) : (s.consume n).frames = s.frames := rfl
@[simp] theorem State.consume_ports (s : State) (n : Count9) : (s.consume n).ports = s.ports := rfl
@[simp] theorem State.consume_draws (s : State) (n : Count9) : (s.consume n).draws = s.draws := rfl

/-! ### State.errTag -/
@[simp] theorem State.errTag_pst (s : State) (b : Byte) : (s.errTag b).pst = s.pst := rfl
@[simp] theorem State.errTag_len (s : State) (b : Byte) : (s.errTag b).len = s.len := rfl
@[simp] theorem State.errTag_cnt (s : State) (b : Byte) : (s.errTag b).cnt = s.cnt := rfl
@[simp] theorem State.errTag_csum (s : State) (b : Byte) : (s.errTag b).csum = s.csum := rfl
@[simp] theorem State.errTag_rxbuf (s : State) (b : Byte) : (s.errTag b).rxbuf = s.rxbuf := rfl
@[simp] theorem State.errTag_phase (s : State) (b : Byte) : (s.errTag b).phase = s.phase := rfl
@[simp] theorem State.errTag_retry (s : State) (b : Byte) : (s.errTag b).retry = s.retry := rfl
@[simp] theorem State.errTag_rtxp (s : State) (b : Byte) : (s.errTag b).rtxp = s.rtxp := rfl
@[simp] theorem State.errTag_fatal (s : State) (b : Byte) : (s.errTag b).fatal = s.fatal := rfl
@[simp] theorem State.errTag_fcause (s : State) (b : Byte) : (s.errTag b).fcause = s.fcause := rfl
@[simp] theorem State.errTag_outbuf (s : State) (b : Byte) : (s.errTag b).outbuf = s.outbuf := rfl
@[simp] theorem State.errTag_outlen (s : State) (b : Byte) : (s.errTag b).outlen = s.outlen := rfl
@[simp] theorem State.errTag_cfg (s : State) (b : Byte) : (s.errTag b).cfg = s.cfg := rfl
@[simp] theorem State.errTag_rom (s : State) (b : Byte) : (s.errTag b).rom = s.rom := rfl
@[simp] theorem State.errTag_report (s : State) (b : Byte) : (s.errTag b).report = { s.report with errTag := b } := rfl
@[simp] theorem State.errTag_view (s : State) (b : Byte) : (s.errTag b).view = s.view := rfl
@[simp] theorem State.errTag_frames (s : State) (b : Byte) : (s.errTag b).frames = s.frames := rfl
@[simp] theorem State.errTag_ports (s : State) (b : Byte) : (s.errTag b).ports = s.ports := rfl
@[simp] theorem State.errTag_draws (s : State) (b : Byte) : (s.errTag b).draws = s.draws := rfl

/-! ### State.setRpt -/
@[simp] theorem State.setRpt_pst (s : State) (r : Rpt) : (s.setRpt r).pst = s.pst := rfl
@[simp] theorem State.setRpt_len (s : State) (r : Rpt) : (s.setRpt r).len = s.len := rfl
@[simp] theorem State.setRpt_cnt (s : State) (r : Rpt) : (s.setRpt r).cnt = s.cnt := rfl
@[simp] theorem State.setRpt_csum (s : State) (r : Rpt) : (s.setRpt r).csum = s.csum := rfl
@[simp] theorem State.setRpt_rxbuf (s : State) (r : Rpt) : (s.setRpt r).rxbuf = s.rxbuf := rfl
@[simp] theorem State.setRpt_phase (s : State) (r : Rpt) : (s.setRpt r).phase = s.phase := rfl
@[simp] theorem State.setRpt_retry (s : State) (r : Rpt) : (s.setRpt r).retry = s.retry := rfl
@[simp] theorem State.setRpt_rtxp (s : State) (r : Rpt) : (s.setRpt r).rtxp = s.rtxp := rfl
@[simp] theorem State.setRpt_fatal (s : State) (r : Rpt) : (s.setRpt r).fatal = s.fatal := rfl
@[simp] theorem State.setRpt_fcause (s : State) (r : Rpt) : (s.setRpt r).fcause = s.fcause := rfl
@[simp] theorem State.setRpt_outbuf (s : State) (r : Rpt) : (s.setRpt r).outbuf = s.outbuf := rfl
@[simp] theorem State.setRpt_outlen (s : State) (r : Rpt) : (s.setRpt r).outlen = s.outlen := rfl
@[simp] theorem State.setRpt_cfg (s : State) (r : Rpt) : (s.setRpt r).cfg = s.cfg := rfl
@[simp] theorem State.setRpt_rom (s : State) (r : Rpt) : (s.setRpt r).rom = s.rom := rfl
@[simp] theorem State.setRpt_report (s : State) (r : Rpt) : (s.setRpt r).report = { s.report with rpt := r } := rfl
@[simp] theorem State.setRpt_view (s : State) (r : Rpt) : (s.setRpt r).view = s.view := rfl
@[simp] theorem State.setRpt_frames (s : State) (r : Rpt) : (s.setRpt r).frames = s.frames := rfl
@[simp] theorem State.setRpt_ports (s : State) (r : Rpt) : (s.setRpt r).ports = s.ports := rfl
@[simp] theorem State.setRpt_draws (s : State) (r : Rpt) : (s.setRpt r).draws = s.draws := rfl

/-! ### State.violate -/
@[simp] theorem State.violate_pst (s : State) : (s.violate).pst = s.pst := rfl
@[simp] theorem State.violate_len (s : State) : (s.violate).len = s.len := rfl
@[simp] theorem State.violate_cnt (s : State) : (s.violate).cnt = s.cnt := rfl
@[simp] theorem State.violate_csum (s : State) : (s.violate).csum = s.csum := rfl
@[simp] theorem State.violate_rxbuf (s : State) : (s.violate).rxbuf = s.rxbuf := rfl
@[simp] theorem State.violate_phase (s : State) : (s.violate).phase = s.phase := rfl
@[simp] theorem State.violate_retry (s : State) : (s.violate).retry = s.retry := rfl
@[simp] theorem State.violate_rtxp (s : State) : (s.violate).rtxp = s.rtxp := rfl
@[simp] theorem State.violate_fatal (s : State) : (s.violate).fatal = s.fatal := rfl
@[simp] theorem State.violate_fcause (s : State) : (s.violate).fcause = s.fcause := rfl
@[simp] theorem State.violate_outbuf (s : State) : (s.violate).outbuf = s.outbuf := rfl
@[simp] theorem State.violate_outlen (s : State) : (s.violate).outlen = s.outlen := rfl
@[simp] theorem State.violate_cfg (s : State) : (s.violate).cfg = s.cfg := rfl
@[simp] theorem State.violate_rom (s : State) : (s.violate).rom = s.rom := rfl
@[simp] theorem State.violate_report (s : State) : (s.violate).report = { s.report with violation := true } := rfl
@[simp] theorem State.violate_view (s : State) : (s.violate).view = s.view := rfl
@[simp] theorem State.violate_frames (s : State) : (s.violate).frames = s.frames := rfl
@[simp] theorem State.violate_ports (s : State) : (s.violate).ports = s.ports := rfl
@[simp] theorem State.violate_draws (s : State) : (s.violate).draws = s.draws := rfl

/-! ### State.queueAck -/
@[simp] theorem State.queueAck_pst (s : State) : (s.queueAck).pst = s.pst := rfl
@[simp] theorem State.queueAck_len (s : State) : (s.queueAck).len = s.len := rfl
@[simp] theorem State.queueAck_cnt (s : State) : (s.queueAck).cnt = s.cnt := rfl
@[simp] theorem State.queueAck_csum (s : State) : (s.queueAck).csum = s.csum := rfl
@[simp] theorem State.queueAck_rxbuf (s : State) : (s.queueAck).rxbuf = s.rxbuf := rfl
@[simp] theorem State.queueAck_phase (s : State) : (s.queueAck).phase = .writingAck := rfl
@[simp] theorem State.queueAck_retry (s : State) : (s.queueAck).retry = s.retry := rfl
@[simp] theorem State.queueAck_rtxp (s : State) : (s.queueAck).rtxp = s.rtxp := rfl
@[simp] theorem State.queueAck_fatal (s : State) : (s.queueAck).fatal = s.fatal := rfl
@[simp] theorem State.queueAck_fcause (s : State) : (s.queueAck).fcause = s.fcause := rfl
@[simp] theorem State.queueAck_outbuf (s : State) : (s.queueAck).outbuf = s.outbuf := rfl
@[simp] theorem State.queueAck_outlen (s : State) : (s.queueAck).outlen = s.outlen := rfl
@[simp] theorem State.queueAck_cfg (s : State) : (s.queueAck).cfg = s.cfg := rfl
@[simp] theorem State.queueAck_rom (s : State) : (s.queueAck).rom = s.rom := rfl
@[simp] theorem State.queueAck_report (s : State) : (s.queueAck).report = { s.report with needsWrite := .ack } := rfl
@[simp] theorem State.queueAck_view (s : State) : (s.queueAck).view = s.view := rfl
@[simp] theorem State.queueAck_frames (s : State) : (s.queueAck).frames = s.frames := rfl
@[simp] theorem State.queueAck_ports (s : State) : (s.queueAck).ports = s.ports := rfl
@[simp] theorem State.queueAck_draws (s : State) : (s.queueAck).draws = s.draws := rfl

/-! ### State.queueOut -/
@[simp] theorem State.queueOut_pst (s : State) : (s.queueOut).pst = s.pst := rfl
@[simp] theorem State.queueOut_len (s : State) : (s.queueOut).len = s.len := rfl
@[simp] theorem State.queueOut_cnt (s : State) : (s.queueOut).cnt = s.cnt := rfl
@[simp] theorem State.queueOut_csum (s : State) : (s.queueOut).csum = s.csum := rfl
@[simp] theorem State.queueOut_rxbuf (s : State) : (s.queueOut).rxbuf = s.rxbuf := rfl
@[simp] theorem State.queueOut_phase (s : State) : (s.queueOut).phase = .writingMessage := rfl
@[simp] theorem State.queueOut_retry (s : State) : (s.queueOut).retry = s.retry := rfl
@[simp] theorem State.queueOut_rtxp (s : State) : (s.queueOut).rtxp = s.rtxp := rfl
@[simp] theorem State.queueOut_fatal (s : State) : (s.queueOut).fatal = s.fatal := rfl
@[simp] theorem State.queueOut_fcause (s : State) : (s.queueOut).fcause = s.fcause := rfl
@[simp] theorem State.queueOut_outbuf (s : State) : (s.queueOut).outbuf = s.outbuf := rfl
@[simp] theorem State.queueOut_outlen (s : State) : (s.queueOut).outlen = s.outlen := rfl
@[simp] theorem State.queueOut_cfg (s : State) : (s.queueOut).cfg = s.cfg := rfl
@[simp] theorem State.queueOut_rom (s : State) : (s.queueOut).rom = s.rom := rfl
@[simp] theorem State.queueOut_report (s : State) : (s.queueOut).report = { s.report with needsWrite := .out } := rfl
@[simp] theorem State.queueOut_view (s : State) : (s.queueOut).view = s.view := rfl
@[simp] theorem State.queueOut_frames (s : State) : (s.queueOut).frames = s.frames := rfl
@[simp] theorem State.queueOut_ports (s : State) : (s.queueOut).ports = s.ports := rfl
@[simp] theorem State.queueOut_draws (s : State) : (s.queueOut).draws = s.draws := rfl

/-! ### State.countRetry -/
@[simp] theorem State.countRetry_pst (s : State) : (s.countRetry).pst = s.pst := rfl
@[simp] theorem State.countRetry_len (s : State) : (s.countRetry).len = s.len := rfl
@[simp] theorem State.countRetry_cnt (s : State) : (s.countRetry).cnt = s.cnt := rfl
@[simp] theorem State.countRetry_csum (s : State) : (s.countRetry).csum = s.csum := rfl
@[simp] theorem State.countRetry_rxbuf (s : State) : (s.countRetry).rxbuf = s.rxbuf := rfl
@[simp] theorem State.countRetry_phase (s : State) : (s.countRetry).phase = s.phase := rfl
@[simp] theorem State.countRetry_retry (s : State) : (s.countRetry).retry = s.retry + 1 := rfl
@[simp] theorem State.countRetry_rtxp (s : State) : (s.countRetry).rtxp = s.rtxp := rfl
@[simp] theorem State.countRetry_fatal (s : State) : (s.countRetry).fatal = s.fatal := rfl
@[simp] theorem State.countRetry_fcause (s : State) : (s.countRetry).fcause = s.fcause := rfl
@[simp] theorem State.countRetry_outbuf (s : State) : (s.countRetry).outbuf = s.outbuf := rfl
@[simp] theorem State.countRetry_outlen (s : State) : (s.countRetry).outlen = s.outlen := rfl
@[simp] theorem State.countRetry_cfg (s : State) : (s.countRetry).cfg = s.cfg := rfl
@[simp] theorem State.countRetry_rom (s : State) : (s.countRetry).rom = s.rom := rfl
@[simp] theorem State.countRetry_report (s : State) : (s.countRetry).report = s.report := rfl
@[simp] theorem State.countRetry_view (s : State) : (s.countRetry).view = s.view := rfl
@[simp] theorem State.countRetry_frames (s : State) : (s.countRetry).frames = s.frames := rfl
@[simp] theorem State.countRetry_ports (s : State) : (s.countRetry).ports = s.ports := rfl
@[simp] theorem State.countRetry_draws (s : State) : (s.countRetry).draws = s.draws := rfl

/-! ### State.exceedLimit -/
@[simp] theorem State.exceedLimit_pst (s : State) : (s.exceedLimit).pst = s.pst := rfl
@[simp] theorem State.exceedLimit_len (s : State) : (s.exceedLimit).len = s.len := rfl
@[simp] theorem State.exceedLimit_cnt (s : State) : (s.exceedLimit).cnt = s.cnt := rfl
@[simp] theorem State.exceedLimit_csum (s : State) : (s.exceedLimit).csum = s.csum := rfl
@[simp] theorem State.exceedLimit_rxbuf (s : State) : (s.exceedLimit).rxbuf = s.rxbuf := rfl
@[simp] theorem State.exceedLimit_phase (s : State) : (s.exceedLimit).phase = s.phase := rfl
@[simp] theorem State.exceedLimit_retry (s : State) : (s.exceedLimit).retry = s.retry := rfl
@[simp] theorem State.exceedLimit_rtxp (s : State) : (s.exceedLimit).rtxp = s.rtxp := rfl
@[simp] theorem State.exceedLimit_fatal (s : State) : (s.exceedLimit).fatal = true := rfl
@[simp] theorem State.exceedLimit_fcause (s : State) : (s.exceedLimit).fcause = .retryLimit := rfl
@[simp] theorem State.exceedLimit_outbuf (s : State) : (s.exceedLimit).outbuf = s.outbuf := rfl
@[simp] theorem State.exceedLimit_outlen (s : State) : (s.exceedLimit).outlen = s.outlen := rfl
@[simp] theorem State.exceedLimit_cfg (s : State) : (s.exceedLimit).cfg = s.cfg := rfl
@[simp] theorem State.exceedLimit_rom (s : State) : (s.exceedLimit).rom = s.rom := rfl
@[simp] theorem State.exceedLimit_report (s : State) : (s.exceedLimit).report = { s.report with err := .retryLimit, rpt := .fatal } := rfl
@[simp] theorem State.exceedLimit_view (s : State) : (s.exceedLimit).view = s.view := rfl
@[simp] theorem State.exceedLimit_frames (s : State) : (s.exceedLimit).frames = s.frames := rfl
@[simp] theorem State.exceedLimit_ports (s : State) : (s.exceedLimit).ports = s.ports := rfl
@[simp] theorem State.exceedLimit_draws (s : State) : (s.exceedLimit).draws = s.draws := rfl

/-! ### State.reportResult -/
@[simp] theorem State.reportResult_pst (s : State) (r : DecodeResult) : (s.reportResult r).pst = s.pst := by cases r <;> rfl
@[simp] theorem State.reportResult_len (s : State) (r : DecodeResult) : (s.reportResult r).len = s.len := by cases r <;> rfl
@[simp] theorem State.reportResult_cnt (s : State) (r : DecodeResult) : (s.reportResult r).cnt = s.cnt := by cases r <;> rfl
@[simp] theorem State.reportResult_csum (s : State) (r : DecodeResult) : (s.reportResult r).csum = s.csum := by cases r <;> rfl
@[simp] theorem State.reportResult_rxbuf (s : State) (r : DecodeResult) : (s.reportResult r).rxbuf = s.rxbuf := by cases r <;> rfl
@[simp] theorem State.reportResult_phase (s : State) (r : DecodeResult) : (s.reportResult r).phase = s.phase := by cases r <;> rfl
@[simp] theorem State.reportResult_retry (s : State) (r : DecodeResult) : (s.reportResult r).retry = s.retry := by cases r <;> rfl
@[simp] theorem State.reportResult_rtxp (s : State) (r : DecodeResult) : (s.reportResult r).rtxp = s.rtxp := by cases r <;> rfl
@[simp] theorem State.reportResult_fatal (s : State) (r : DecodeResult) : (s.reportResult r).fatal = s.fatal := by cases r <;> rfl
@[simp] theorem State.reportResult_fcause (s : State) (r : DecodeResult) : (s.reportResult r).fcause = s.fcause := by cases r <;> rfl
@[simp] theorem State.reportResult_outbuf (s : State) (r : DecodeResult) : (s.reportResult r).outbuf = s.outbuf := by cases r <;> rfl
@[simp] theorem State.reportResult_outlen (s : State) (r : DecodeResult) : (s.reportResult r).outlen = s.outlen := by cases r <;> rfl
@[simp] theorem State.reportResult_cfg (s : State) (r : DecodeResult) : (s.reportResult r).cfg = s.cfg := by cases r <;> rfl
@[simp] theorem State.reportResult_rom (s : State) (r : DecodeResult) : (s.reportResult r).rom = s.rom := by cases r <;> rfl
@[simp] theorem State.reportResult_view (s : State) (r : DecodeResult) : (s.reportResult r).view = s.view := by cases r <;> rfl
@[simp] theorem State.reportResult_frames (s : State) (r : DecodeResult) : (s.reportResult r).frames = s.frames := by cases r <;> rfl
@[simp] theorem State.reportResult_ports (s : State) (r : DecodeResult) : (s.reportResult r).ports = s.ports := by cases r <;> rfl
@[simp] theorem State.reportResult_draws (s : State) (r : DecodeResult) : (s.reportResult r).draws = s.draws := by cases r <;> rfl
@[simp] theorem State.reportResult_frameKind (s : State) (r : DecodeResult) : (s.reportResult r).report.frameKind = s.report.frameKind := by cases r <;> rfl
@[simp] theorem State.reportResult_consumed (s : State) (r : DecodeResult) : (s.reportResult r).report.consumed = s.report.consumed := by cases r <;> rfl
@[simp] theorem State.reportResult_violation (s : State) (r : DecodeResult) : (s.reportResult r).report.violation = s.report.violation := by cases r <;> rfl
@[simp] theorem State.reportResult_needsWrite (s : State) (r : DecodeResult) : (s.reportResult r).report.needsWrite = s.report.needsWrite := by cases r <;> rfl

/-- The decoder sets no error but ShortMessage and UnknownType. -/
theorem State.reportResult_err (s : State) (r : DecodeResult) :
    (s.reportResult r).report.err = s.report.err ∨ (s.reportResult r).report.err = .shortMessage ∨
      (s.reportResult r).report.err = .unknownType := by
  cases r <;> simp [State.reportResult]

/-- The decoder writes only the report. -/
theorem State.reportResult_eq (s : State) (r : DecodeResult) :
    s.reportResult r = { s with report := (s.reportResult r).report } := by
  cases r <;> rfl

/-! ### State.giveView -/
@[simp] theorem State.giveView_pst (s : State) (r : DecodeResult) : (s.giveView r).pst = s.pst := rfl
@[simp] theorem State.giveView_len (s : State) (r : DecodeResult) : (s.giveView r).len = s.len := rfl
@[simp] theorem State.giveView_cnt (s : State) (r : DecodeResult) : (s.giveView r).cnt = s.cnt := rfl
@[simp] theorem State.giveView_csum (s : State) (r : DecodeResult) : (s.giveView r).csum = s.csum := rfl
@[simp] theorem State.giveView_rxbuf (s : State) (r : DecodeResult) : (s.giveView r).rxbuf = s.rxbuf := rfl
@[simp] theorem State.giveView_phase (s : State) (r : DecodeResult) : (s.giveView r).phase = s.phase := rfl
@[simp] theorem State.giveView_retry (s : State) (r : DecodeResult) : (s.giveView r).retry = s.retry := rfl
@[simp] theorem State.giveView_rtxp (s : State) (r : DecodeResult) : (s.giveView r).rtxp = s.rtxp := rfl
@[simp] theorem State.giveView_fatal (s : State) (r : DecodeResult) : (s.giveView r).fatal = s.fatal := rfl
@[simp] theorem State.giveView_fcause (s : State) (r : DecodeResult) : (s.giveView r).fcause = s.fcause := rfl
@[simp] theorem State.giveView_outbuf (s : State) (r : DecodeResult) : (s.giveView r).outbuf = s.outbuf := rfl
@[simp] theorem State.giveView_outlen (s : State) (r : DecodeResult) : (s.giveView r).outlen = s.outlen := rfl
@[simp] theorem State.giveView_cfg (s : State) (r : DecodeResult) : (s.giveView r).cfg = s.cfg := rfl
@[simp] theorem State.giveView_rom (s : State) (r : DecodeResult) : (s.giveView r).rom = s.rom := rfl
@[simp] theorem State.giveView_report (s : State) (r : DecodeResult) : (s.giveView r).report = s.report := rfl
@[simp] theorem State.giveView_ports (s : State) (r : DecodeResult) : (s.giveView r).ports = s.ports := rfl
@[simp] theorem State.giveView_draws (s : State) (r : DecodeResult) : (s.giveView r).draws = s.draws := rfl
@[simp] theorem State.giveView_view (s : State) (r : DecodeResult) : (s.giveView r).view = r.view (s.frames + 1) := rfl
@[simp] theorem State.giveView_frames (s : State) (r : DecodeResult) : (s.giveView r).frames = s.frames + 1 := rfl

end Sys2Proof.Machine
end

