-- ==== Sys2Proof/Laws/Ops.lean ====
section
/-! SUPPORT. For each shared operation, once, everything it can do: later proofs cite these lemmas and do
not unfold the operations. -/

namespace Sys2Proof.Machine

/-! ### Selection and faults -/

theorem whenSelected_next {c : Bool} {r : Result} {t : State} :
    whenSelected c r = .next t ↔ c = true ∧ r = .next t := by
  cases c <;> simp [whenSelected]

@[simp] theorem whenSelected_true (r : Result) : whenSelected true r = r := rfl

@[simp] theorem whenSelected_false (r : Result) : whenSelected false r = .refused .notSelected := rfl

theorem orFault_next {α : Type} {x : Except Fault α} {k : α → Result} {t : State} :
    orFault x k = .next t ↔ ∃ v, x = .ok v ∧ k v = .next t := by
  cases x <;> simp [orFault]

@[simp] theorem orFault_ok {α : Type} (v : α) (k : α → Result) : orFault (.ok v) k = k v := rfl

@[simp] theorem orFault_error {α : Type} (f : Fault) (k : α → Result) :
    orFault (.error f) k = .fault f := rfl

/-- A received byte is taken by the selected row, or waits at the transport. -/
theorem State.receive_next {s t : State} {b : Byte} {c : Bool} {r : Result} :
    s.receive b c r = .next t ↔
      (s.rxReady = true ∧ c = true ∧ r = .next t) ∨ (s.rxReady = false ∧ s.holdByte b = t) := by
  cases h : s.rxReady <;> simp [State.receive, h, whenSelected_next]

theorem State.receive_ready {s : State} (h : s.rxReady = true) (b : Byte) (c : Bool) (r : Result) :
    s.receive b c r = whenSelected c r := by
  simp [State.receive, h]

/-! ### Buffers -/

theorem State.writeRx_ok {s t : State} {i : Nat} {b : Byte} :
    s.writeRx i b = .ok t ↔ i < rxbufSize ∧ { s with rxbuf := Memory.write s.rxbuf i b } = t := by
  by_cases h : i < rxbufSize <;> simp [State.writeRx, h]

theorem State.writeOut_ok {s t : State} {f : List Byte} :
    s.writeOut f = .ok t ↔ f.length ≤ outbufSize ∧
      { s with outbuf := Memory.writeList s.outbuf 0 f, outlen := BitVec.ofNat 9 f.length } = t := by
  by_cases h : f.length ≤ outbufSize <;> simp [State.writeOut, h]

theorem viewOrFault_ok {m : Memory} {off n : Nat} {bs : List Byte} :
    viewOrFault m off n = .ok bs ↔ Memory.view m off n = some bs := by
  cases h : Memory.view m off n <;> simp [viewOrFault, h]

/-- MSG can be read when LEN is not zero and its cells hold values. -/
theorem State.message_ok {s : State} {msg : List Byte} :
    s.message = .ok msg ↔ s.len ≠ 0 ∧ Memory.view s.rxbuf 0 (s.len.toNat - 1) = some msg := by
  unfold State.message
  split
  · simp_all
  · rename_i h
    simp only [viewOrFault_ok, ne_eq, h, not_false_eq_true, true_and]

/-- MSG has `LEN - 1` bytes. -/
theorem State.message_length {s : State} {msg : List Byte} (h : s.message = .ok msg) :
    msg.length + 1 = s.len.toNat := by
  obtain ⟨h0, hv⟩ := State.message_ok.mp h
  have h1 : s.len.toNat ≠ 0 := fun e => h0 (BitVec.eq_of_toNat_eq (by simpa using e))
  have := Memory.view_length hv
  omega

/-- A view can be read while it is the live one and its cells hold values. -/
theorem State.readView_ok {s : State} {v : View} {bs : List Byte} :
    s.readView v = .ok bs ↔
      s.view = some v ∧ Memory.view s.rxbuf v.off.toNat v.len.toNat = some bs := by
  by_cases h : s.view = some v <;> simp [State.readView, h, viewOrFault_ok]

theorem State.endBody_ok {s t : State} {b : Byte} :
    s.endBody b = .ok t ↔ s.cnt.toNat < rxbufSize ∧
      { s with report := {}, view := none, rxbuf := Memory.write s.rxbuf s.cnt.toNat b,
               cnt := s.cnt + 1, pst := .idle } = t := by
  by_cases h : s.cnt.toNat < rxbufSize <;> simp [State.endBody, State.writeRx, h, State.beginRx]

theorem State.onMessage_next {s t : State} {k : List Byte → Result} :
    s.onMessage k = .next t ↔
      s.report.frameKind = .data ∧ ∃ msg, s.message = .ok msg ∧ k msg = .next t := by
  simp [State.onMessage, whenSelected_next, orFault_next]

theorem State.decodeStage_next {s t : State} {k : State → Result} :
    s.decodeStage k = .next t ↔
      ∃ msg, s.message = .ok msg ∧
        k ((s.reportResult (decodeMessage s.rom msg)).giveView (decodeMessage s.rom msg)) = .next t := by
  simp [State.decodeStage, orFault_next]

/-! ### Status -/

theorem State.rxReady_iff {s : State} :
    s.rxReady = true ↔ s.fatal = false ∧ (s.phase = .readingFrame ∨ s.phase = .awaitingAck) := by
  simp [State.rxReady]

theorem State.sendReady_iff {s : State} :
    s.sendReady = true ↔ s.fatal = false ∧ s.phase = .readingFrame ∧ s.pst = .idle := by
  simp [State.sendReady, and_assoc]

theorem State.takesFrame_iff {s : State} {k : FrameKind} {p : Phase} :
    s.takesFrame k p = true ↔ s.fatal = false ∧ s.phase = p ∧ s.report.frameKind = k := by
  simp [State.takesFrame, and_assoc]

theorem State.inPhase_iff {s : State} {p : Phase} :
    s.inPhase p = true ↔ s.fatal = false ∧ s.phase = p := by
  simp [State.inPhase]

/-! ### The handshake -/

/-- What the handshake controller can do with a completed frame (`43_handshake.md` R160). -/
theorem dispatchFrame_next {s t : State} (h : dispatchFrame s = .next t) :
    s.fatal = false ∧
    ((s.phase = .readingFrame ∧ s.report.frameKind = .data ∧ t = s.queueAck) ∨
     (s.phase = .readingFrame ∧ (s.report.frameKind = .ack ∨ s.report.frameKind = .nack ∨
        s.report.frameKind = .can) ∧ t = s.setRpt .frameEvent) ∨
     ((s.phase = .readingFrame ∨ s.phase = .awaitingAck) ∧ s.report.frameKind = .none ∧ t = s) ∨
     (s.phase = .awaitingAck ∧ s.report.frameKind = .ack ∧
        t = ({ s with phase := .readingFrame, retry := 0, rtxp := false }).setRpt .frameEvent) ∨
     (s.phase = .awaitingAck ∧ (s.report.frameKind = .nack ∨ s.report.frameKind = .can) ∧
        s.retriesLeft = true ∧ t = s.countRetry.queueOut.setRpt .frameEvent) ∨
     (s.phase = .awaitingAck ∧ (s.report.frameKind = .nack ∨ s.report.frameKind = .can) ∧
        s.retriesLeft = false ∧ t = s.exceedLimit) ∨
     (s.phase = .awaitingAck ∧ s.report.frameKind = .data ∧ s.retriesLeft = true ∧
        t = ({ s.countRetry.violate with rtxp := true }).queueAck) ∨
     (s.phase = .awaitingAck ∧ s.report.frameKind = .data ∧ s.retriesLeft = false ∧
        t = s.violate.exceedLimit)) := by
  cases hr : s.retriesLeft <;> cases hp : s.phase <;> cases hk : s.report.frameKind <;>
    simp [dispatchFrame, execDataInReadingFrame, execAckInReadingFrame, execNackInReadingFrame,
      execCanInReadingFrame, execAckInAwaitingAck, execNackInAwaitingAck, execCanInAwaitingAck,
      execRetryLimit, execDataInAwaitingAck, execDataInAwaitingAckLimit, execNonFrame,
      whenSelected_next, State.takesFrame_iff, hp, hk, hr] at h
  all_goals
    obtain ⟨hf, ht⟩ := h
    subst ht
    exact ⟨hf, by simp [hp, hk]⟩

/-- The handshake controller takes every completed frame while `rx_ready = 1`. -/
theorem dispatchFrame_answers {s : State} (h : s.rxReady = true) : ∃ t, dispatchFrame s = .next t := by
  obtain ⟨hf, hp⟩ := State.rxReady_iff.mp h
  cases hr : s.retriesLeft <;> rcases hp with hp | hp <;> cases hk : s.report.frameKind <;>
    simp [dispatchFrame, execDataInReadingFrame, execAckInReadingFrame, execNackInReadingFrame,
      execCanInReadingFrame, execAckInAwaitingAck, execNackInAwaitingAck, execCanInAwaitingAck,
      execRetryLimit, execDataInAwaitingAck, execDataInAwaitingAckLimit, execNonFrame,
      State.takesFrame, hf, hp, hk, hr]

/-! ### Fetching -/

/-- Every offered event comes from its port, is enabled, and leaves everything but that port. -/
theorem State.mem_offers {s t : State} {e : Event} (h : (e, t) ∈ s.offers) :
    (∃ c rest, s.ports.reset = c :: rest ∧ e = .reset c ∧
        t = { s with ports := { s.ports with reset := rest } }) ∨
    (∃ n, s.ports.xportErr = n + 1 ∧ e = .xportErr ∧
        t = { s with ports := { s.ports with xportErr := n } }) ∨
    (∃ n, s.ports.txDone = n + 1 ∧ e = .txDone ∧
        t = { s with ports := { s.ports with txDone := n } }) ∨
    (∃ b rest, s.ports.rx = b :: rest ∧ s.rxReady = true ∧ e = .rxByte b ∧
        t = { s with ports := { s.ports with rx := rest } }) ∨
    (∃ n, s.ports.timeout = n + 1 ∧ e = .timeout ∧
        t = { s with ports := { s.ports with timeout := n } }) ∨
    (∃ m rest, s.ports.send = m :: rest ∧ s.sendReady = true ∧ e = .send m ∧
        t = { s with ports := { s.ports with send := rest } }) := by
  simp only [State.offers, List.mem_append] at h
  rcases h with ((((h | h) | h) | h) | h) | h
  · unfold State.offeredReset at h
    split at h <;> simp_all
  · unfold State.offeredXportErr at h
    split at h <;> simp_all
  · unfold State.offeredTxDone at h
    split at h <;> simp_all
  · unfold State.offeredRx at h
    split at h
    · simp at h
    · split at h <;> simp_all
  · unfold State.offeredTimeout at h
    split at h <;> simp_all
  · unfold State.offeredSend at h
    split at h
    · simp at h
    · split at h <;> simp_all

/-- The fetched event is one of the offered ones; drawing a free value is the only further change. -/
theorem State.fetch_some {s t : State} {e : Event} (h : s.fetch = some (e, t)) :
    ∃ u d, (e, u) ∈ s.offers ∧ t = { u with draws := d } := by
  unfold State.fetch at h
  split at h
  · cases h
  · rename_i o ho
    cases h
    exact ⟨t, t.draws, by simp [ho], rfl⟩
  · rename_i o p os ho
    unfold arbitrate at h
    split at h
    · rename_i e' u hu
      cases h
      refine ⟨u, u.draws + 1, ?_, rfl⟩
      rw [ho]
      exact List.mem_of_getElem? hu
    · cases h

/-- With an enabled event pending, one is fetched. -/
theorem State.fetch_none {s : State} : s.fetch = none ↔ s.offers = [] := by
  unfold State.fetch
  split
  · simp_all
  · simp_all
  · rename_i o p os ho
    have hlt : Config.arb s.draws % (o :: p :: os).length < (o :: p :: os).length :=
      Nat.mod_lt _ (by simp)
    simp only [arbitrate, ho, List.getElem?_eq_getElem hlt]
    simp

/-- What one step can do. -/
theorem step_next {s t : State} (h : step s = .next t) :
    (s.fetch = none ∧ t = s) ∨
    ∃ e u i, s.fetch = some (e, u) ∧ decode (u.ctx .ev) e.toInput = .ok i ∧ exec i u = .next t := by
  unfold step at h
  split at h
  · rename_i hf
    cases h
    exact .inl ⟨hf, rfl⟩
  · rename_i e u hf
    split at h
    · rename_i i hi
      exact .inr ⟨e, u, i, hf, hi, h⟩
    · cases h

/-- An event decodes as its rows say, whatever the code and argument that carry it. -/
@[simp] theorem decode_event (c : Ctx) (e : Event) (h : c.fmt = .ev) :
    decode c e.toInput = decodeEvent c e := by
  cases e <;> simp [decode, Event.toInput, eventOf, h]

end Sys2Proof.Machine
end

