-- ==== Sys2Proof/Laws/Exec.lean ====
section
/-! SUPPORT. What the events can do, once each: the cases of an enabled RX_BYTE step and of a step of the
machine, which later proofs cite and do not unfold. -/

namespace Sys2Proof.Machine

/-- The handshake's part of a frame-completing step, as the change it makes to a state `u` with `rx_ready = 1`
whose report names the frame (`43_handshake.md` R161 to R172). -/
inductive HandshakeOf (u : State) : State → Prop
  | ackData (hp : u.phase = .readingFrame) (hk : u.report.frameKind = .data) : HandshakeOf u u.queueAck
  | event (hp : u.phase = .readingFrame)
      (hk : u.report.frameKind = .ack ∨ u.report.frameKind = .nack ∨ u.report.frameKind = .can) :
      HandshakeOf u (u.setRpt .frameEvent)
  | success (hp : u.phase = .awaitingAck) (hk : u.report.frameKind = .ack) :
      HandshakeOf u (({ u with phase := .readingFrame, retry := 0, rtxp := false }).setRpt .frameEvent)
  | again (hp : u.phase = .awaitingAck) (hk : u.report.frameKind = .nack ∨ u.report.frameKind = .can)
      (hr : u.retriesLeft = true) : HandshakeOf u (u.countRetry.queueOut.setRpt .frameEvent)
  | limit (hp : u.phase = .awaitingAck) (hk : u.report.frameKind = .nack ∨ u.report.frameKind = .can)
      (hr : u.retriesLeft = false) : HandshakeOf u u.exceedLimit
  | violation (hp : u.phase = .awaitingAck) (hk : u.report.frameKind = .data)
      (hr : u.retriesLeft = true) : HandshakeOf u (({ u.countRetry.violate with rtxp := true }).queueAck)
  | violationLimit (hp : u.phase = .awaitingAck) (hk : u.report.frameKind = .data)
      (hr : u.retriesLeft = false) : HandshakeOf u u.violate.exceedLimit

/-- A completed frame takes exactly one of the handshake's cases. -/
theorem handshakeOf_dispatchFrame {u t : State} (h : dispatchFrame u = .next t)
    (hk : u.report.frameKind ≠ .none) : HandshakeOf u t := by
  obtain ⟨-, h⟩ := dispatchFrame_next h
  rcases h with ⟨h1, h2, rfl⟩ | ⟨h1, h2, rfl⟩ | ⟨-, h2, -⟩ | ⟨h1, h2, rfl⟩ | ⟨h1, h2, h3, rfl⟩ |
    ⟨h1, h2, h3, rfl⟩ | ⟨h1, h2, h3, rfl⟩ | ⟨h1, h2, h3, rfl⟩
  · exact .ackData h1 h2
  · exact .event h1 h2
  · exact absurd h2 hk
  · exact .success h1 h2
  · exact .again h1 h2 h3
  · exact .limit h1 h2 h3
  · exact .violation h1 h2 h3
  · exact .violationLimit h1 h2 h3

/-- The state between the parser and the handshake of a control frame. -/
def State.afterControl (s : State) (k : FrameKind) : State :=
  s.beginRx.completeFrame k 1

/-- The state between the decoder and the handshake of a valid Data frame. -/
def State.afterData (s : State) (b : Byte) (msg : List Byte) : State :=
  { s with
    rxbuf := Memory.write s.rxbuf s.cnt.toNat b, cnt := s.cnt + 1, pst := .idle,
    report := dataReport s.rom s.len msg, frames := s.frames + 1,
    view := (decodeMessage s.rom msg).view (s.frames + 1) }

@[simp] theorem dataReport_frameKind (rom : Rom) (len : Byte) (msg : List Byte) :
    (dataReport rom len msg).frameKind = .data := by
  unfold dataReport; cases decodeMessage rom msg <;> rfl

@[simp] theorem dataReport_consumed (rom : Rom) (len : Byte) (msg : List Byte) :
    (dataReport rom len msg).consumed = frameBytes len := by
  unfold dataReport; cases decodeMessage rom msg <;> rfl

@[simp] theorem dataReport_needsWrite (rom : Rom) (len : Byte) (msg : List Byte) :
    (dataReport rom len msg).needsWrite = .none := by
  unfold dataReport; cases decodeMessage rom msg <;> rfl

@[simp] theorem dataReport_violation (rom : Rom) (len : Byte) (msg : List Byte) :
    (dataReport rom len msg).violation = false := by
  unfold dataReport; cases decodeMessage rom msg <;> rfl

/-- The decoder gives only its own two errors. -/
theorem dataReport_err (rom : Rom) (len : Byte) (msg : List Byte) :
    (dataReport rom len msg).err = .none ∨ (dataReport rom len msg).err = .shortMessage ∨
      (dataReport rom len msg).err = .unknownType := by
  unfold dataReport; cases decodeMessage rom msg <;> simp

/-- The ten rows of the parser's table, as the change each makes (`40_frame_parser.md` R110). -/
inductive ParserStep (s : State) (b : Byte) : State → Prop
  | sof (hp : s.pst = .idle) (hb : b = 0x01) : ParserStep s b { s.beginRx with pst := .len }
  | control (k : FrameKind) (t : State) (hp : s.pst = .idle)
      (hb : (b = 0x06 ∧ k = .ack) ∨ (b = 0x15 ∧ k = .nack) ∨ (b = 0x18 ∧ k = .can))
      (h : HandshakeOf (s.afterControl k) t) : ParserStep s b t
  | ftUnknown (hp : s.pst = .idle) (hb : isFrameTag b = false) :
      ParserStep s b (((s.beginRx.raise .unknownFrameType .protocolError).errTag b).consume 1)
  | lenNonzero (hp : s.pst = .len) (hb : b ≠ 0) :
      ParserStep s b { s.beginRx with len := b, cnt := 0, csum := 0xFF ^^^ b, pst := .body }
  | lenZero (hp : s.pst = .len) (hb : b = 0) :
      ParserStep s b ((({ s.beginRx with len := 0, cnt := 0, csum := 0xFF, pst := .idle }).raise
        .shortMessage .protocolError).consume 2)
  | bodyByte (hp : s.pst = .body) (hc : s.cnt.toNat + 1 < s.len.toNat) :
      ParserStep s b { s.beginRx with
        rxbuf := Memory.write s.rxbuf s.cnt.toNat b, csum := s.csum ^^^ b, cnt := s.cnt + 1 }
  | checksumOk (msg : List Byte) (t : State) (hp : s.pst = .body) (hc : s.cnt.toNat + 1 = s.len.toNat)
      (hb : b = s.csum) (hm : Memory.view s.rxbuf 0 s.cnt.toNat = some msg)
      (h : HandshakeOf (s.afterData b msg) t) : ParserStep s b t
  | checksumBad (hp : s.pst = .body) (hc : s.cnt.toNat + 1 = s.len.toNat) (hb : b ≠ s.csum) :
      ParserStep s b ((({ s.beginRx with
        rxbuf := Memory.write s.rxbuf s.cnt.toNat b, cnt := s.cnt + 1, pst := .idle }).raise
          .invalidChecksum .protocolError).consume (frameBytes s.len))

theorem cnt_lt_rxbufSize {s : State} (h : s.cnt.toNat + 1 ≤ s.len.toNat) : s.cnt.toNat < rxbufSize := by
  have := s.len.isLt
  simp only [rxbufSize]
  omega

/-- The state the decoder leaves is the one with the report of the frame and its view. -/
theorem decoded_afterData (s : State) (b : Byte) (msg : List Byte) :
    (((({ s.beginRx with
        rxbuf := Memory.write s.rxbuf s.cnt.toNat b, cnt := s.cnt + 1, pst := .idle } :
          State).completeFrame .data (frameBytes s.len)).reportResult
      (decodeMessage s.rom msg)).giveView (decodeMessage s.rom msg)) = s.afterData b msg := by
  simp only [State.afterData, dataReport]
  cases decodeMessage s.rom msg <;> rfl

/-- What an enabled RX_BYTE step does is one of the rows. -/
theorem execRxByte_next {s t : State} {b : Byte} (hr : s.rxReady = true)
    (h : execRxByte b s = .next t) : ParserStep s b t := by
  simp only [execRxByte, hr, if_true] at h
  cases hp : s.pst with
  | idle =>
    simp only [hp] at h
    split at h
    · rename_i hb
      subst hb
      simp only [execSof, State.receive, hr, hp, if_true, whenSelected_next] at h
      obtain ⟨-, h⟩ := h
      cases h
      exact .sof hp rfl
    split at h
    · rename_i hb
      simp only [execAck, State.receive, hr, hp, if_true, whenSelected_next] at h
      exact .control .ack t hp (.inl ⟨hb, rfl⟩) (handshakeOf_dispatchFrame h.2
        (by simp [State.afterControl, State.completeFrame]))
    split at h
    · rename_i hb
      simp only [execNack, State.receive, hr, hp, if_true, whenSelected_next] at h
      exact .control .nack t hp (.inr (.inl ⟨hb, rfl⟩))
        (handshakeOf_dispatchFrame h.2
        (by simp [State.afterControl, State.completeFrame]))
    split at h
    · rename_i hb
      simp only [execCan, State.receive, hr, hp, if_true, whenSelected_next] at h
      exact .control .can t hp (.inr (.inr ⟨hb, rfl⟩))
        (handshakeOf_dispatchFrame h.2
        (by simp [State.afterControl, State.completeFrame]))
    · simp only [execFtUnknown, State.receive, hr, hp, if_true, whenSelected_next, Bool.and_eq_true,
        Bool.not_eq_true'] at h
      obtain ⟨⟨-, hb⟩, h⟩ := h
      cases h
      exact .ftUnknown hp hb
  | len =>
    simp only [hp] at h
    split at h
    · rename_i hb
      simp only [execLenZero, State.receive, hr, hp, if_true, whenSelected_next] at h
      obtain ⟨-, h⟩ := h
      cases h
      exact .lenZero hp hb
    · rename_i hb
      simp only [execLenNonzero, State.receive, hr, hp, if_true, whenSelected_next] at h
      obtain ⟨-, h⟩ := h
      cases h
      exact .lenNonzero hp hb
  | body =>
    simp only [hp] at h
    split at h
    · rename_i hc
      simp only [State.beforeLast, decide_eq_true_eq] at hc
      simp only [execBodyByte, State.receive, hr, hp, if_true, whenSelected_next, orFault_next,
        State.writeRx_ok] at h
      obtain ⟨-, u, ⟨-, rfl⟩, h⟩ := h
      cases h
      exact .bodyByte hp hc
    split at h
    · rename_i hc
      simp only [State.atLast, decide_eq_true_eq] at hc
      split at h
      · rename_i hb
        simp only [execChecksumOk, State.receive, hr, hp, if_true, whenSelected_next, orFault_next,
          State.endBody_ok, State.decodeStage_next] at h
        obtain ⟨-, u, ⟨-, rfl⟩, msg, hm, h⟩ := h
        have hm' : Memory.view s.rxbuf 0 s.cnt.toNat = some msg := by
          obtain ⟨-, hv⟩ := State.message_ok.mp hm
          simp only [State.completeFrame] at hv
          rw [show s.len.toNat - 1 = s.cnt.toNat by omega,
            Memory.view_write_outside _ _ (by omega)] at hv
          exact hv
        have h2 : dispatchFrame (s.afterData b msg) = .next t := by
          rw [← decoded_afterData]; exact h
        exact .checksumOk msg t hp hc hb hm' (handshakeOf_dispatchFrame h2 (by simp [State.afterData]))
      · rename_i hb
        simp only [execChecksumBad, State.receive, hr, hp, if_true, whenSelected_next, orFault_next,
          State.endBody_ok] at h
        obtain ⟨-, u, ⟨-, rfl⟩, h⟩ := h
        cases h
        exact .checksumBad hp hc hb
    · cases h

/-- A completed frame is taken in every phase in which bytes are. -/
theorem dispatchFrame_of_rxReady {s u : State} (hr : s.rxReady = true) (h1 : u.fatal = s.fatal)
    (h2 : u.phase = s.phase) : ∃ t, dispatchFrame u = .next t :=
  dispatchFrame_answers (by simpa [State.rxReady, h1, h2] using hr)

/-- An enabled RX_BYTE step answers a next state wherever the parser's registers are ones a run can have. -/
theorem execRxByte_answers {s : State} (b : Byte) (hr : s.rxReady = true)
    (hb : s.pst = .body → s.cnt.toNat < s.len.toNat ∧
      ∃ msg, Memory.view s.rxbuf 0 s.cnt.toNat = some msg) : ∃ t, execRxByte b s = .next t := by
  simp only [execRxByte, hr, if_true]
  cases hp : s.pst with
  | idle =>
    dsimp only
    split
    · exact ⟨_, by simp [execSof, State.receive, hr, hp]; rfl⟩
    split
    · obtain ⟨t, ht⟩ := dispatchFrame_of_rxReady (u := s.afterControl .ack) hr rfl rfl
      exact ⟨t, by simp only [execAck, State.receive, hr, hp, if_true, beq_self_eq_true]; exact ht⟩
    split
    · obtain ⟨t, ht⟩ := dispatchFrame_of_rxReady (u := s.afterControl .nack) hr rfl rfl
      exact ⟨t, by simp only [execNack, State.receive, hr, hp, if_true, beq_self_eq_true]; exact ht⟩
    split
    · obtain ⟨t, ht⟩ := dispatchFrame_of_rxReady (u := s.afterControl .can) hr rfl rfl
      exact ⟨t, by simp only [execCan, State.receive, hr, hp, if_true, beq_self_eq_true]; exact ht⟩
    · rename_i h1 h2 h3 h4
      have : isFrameTag b = false := by
        simp only [isFrameTag, Bool.or_eq_false_iff, beq_eq_false_iff_ne]
        exact ⟨⟨⟨h1, h2⟩, h3⟩, h4⟩
      simp [execFtUnknown, State.receive, hr, hp, this]
  | len =>
    dsimp only
    split
    · simp [execLenZero, State.receive, hr, hp]
    · rename_i h
      have hne : (b != 0) = true := bne_iff_ne.mpr h
      exact ⟨_, by simp only [execLenNonzero, State.receive, hr, hp, if_true, hne, beq_self_eq_true]; rfl⟩
  | body =>
    dsimp only
    obtain ⟨hc, msg, hm⟩ := hb hp
    have hlt : s.cnt.toNat < rxbufSize := cnt_lt_rxbufSize (by omega)
    by_cases h : s.cnt.toNat + 1 < s.len.toNat
    · rw [if_pos (by simpa [State.beforeLast] using h)]
      simp [execBodyByte, State.receive, hr, hp, State.beforeLast, h, State.writeRx, hlt]
    have h' : s.cnt.toNat + 1 = s.len.toNat := by omega
    rw [if_neg (by simpa [State.beforeLast] using h), if_pos (by simpa [State.atLast] using h')]
    split
    · rename_i hcs
      have hbody : s.endBody b = .ok { s.beginRx with
          rxbuf := Memory.write s.rxbuf s.cnt.toNat b, cnt := s.cnt + 1, pst := .idle } := by
        simp [State.endBody, State.writeRx, hlt]
      have hlen : s.len ≠ 0 := by
        intro e
        rw [e] at h'
        simp at h'
      have hview : Memory.view (Memory.write s.rxbuf s.cnt.toNat b) 0 (s.len.toNat - 1) = some msg := by
        rw [Memory.view_write_outside _ _ (by omega), show s.len.toNat - 1 = s.cnt.toNat by omega, hm]
      have hsel : (s.pst == .body && s.atLast && b == s.csum) = true := by
        simp [hp, State.atLast, h', hcs]
      simp only [execChecksumOk, State.receive, hr, if_true, hsel, hbody, whenSelected_true, orFault_ok]
      obtain ⟨t, ht⟩ := dispatchFrame_of_rxReady (u := s.afterData b msg) hr rfl rfl
      refine ⟨t, State.decodeStage_next.mpr ⟨msg, State.message_ok.mpr ⟨hlen, hview⟩, ?_⟩⟩
      rw [← ht, ← decoded_afterData]
      rfl
    · rename_i hcs
      simp [execChecksumBad, State.receive, hr, hp, State.atLast, h', bne_iff_ne.mpr hcs, State.endBody,
        State.writeRx, hlt]

/-- What a step can do: nothing, with no enabled event pending, or the row of the event taken, run in the
state `u`, which is `s` with one port shorter and perhaps a free value drawn. -/
theorem step_cases {s t : State} (h : step s = .next t) :
    (s.offers = [] ∧ t = s) ∨ ∃ e u, s.fetch = some (e, u) ∧
      (∃ p d, u = { s with ports := p, draws := d } ∧ ∀ m ∈ p.send, m ∈ s.ports.send) ∧
      ((∃ cfg, e = .reset cfg ∧ t = u.reopen cfg) ∨
       (∃ b, e = .rxByte b ∧ u.rxReady = true ∧ ParserStep u b t) ∨
       (∃ m, e = .send m ∧ u.sendReady = true ∧ legalLength m = true ∧ execSend m u = .next t) ∨
       (∃ m, e = .send m ∧ u.sendReady = true ∧ refusedLength m = true ∧
          t = u.begin.raise .sendLength .sendRejected) ∨
       (e = .txDone ∧ exec (decodeTxDone u.fatal u.phase u.rtxp) u = .next t) ∨
       (e = .timeout ∧ exec (decodeTimeout u.fatal u.phase u.retriesLeft) u = .next t) ∨
       (e = .xportErr ∧ u.fatal = false ∧ t = u.begin.enterFatal .transport .transport .transportError) ∨
       (e = .xportErr ∧ u.fatal = true ∧ t = u.begin)) := by
  rcases step_next h with ⟨h1, h2⟩ | ⟨e, u, i, hf, hd, hx⟩
  · exact .inl ⟨State.fetch_none.mp h1, h2⟩
  refine .inr ⟨e, u, hf, ?_, ?_⟩
  · obtain ⟨v, d, hm, rfl⟩ := State.fetch_some hf
    rcases State.mem_offers hm with ⟨c, r, -, -, rfl⟩ | ⟨n, -, -, rfl⟩ | ⟨n, -, -, rfl⟩ |
      ⟨b, r, -, -, -, rfl⟩ | ⟨n, -, -, rfl⟩ | ⟨m, r, hp, -, -, rfl⟩ <;> refine ⟨_, _, rfl, fun m h => ?_⟩ <;>
      first | exact h | exact hp ▸ List.mem_cons_of_mem _ h
  rw [decode_event _ _ rfl] at hd
  obtain ⟨v, d, hm, rfl⟩ := State.fetch_some hf
  rcases State.mem_offers hm with ⟨c, r, -, rfl, rfl⟩ | ⟨n, -, rfl, rfl⟩ | ⟨n, -, rfl, rfl⟩ |
    ⟨b, r, -, hr, rfl, rfl⟩ | ⟨n, -, rfl, rfl⟩ | ⟨m, r, -, hr, rfl, rfl⟩
  · cases hd
    cases hx
    exact .inl ⟨c, rfl, rfl⟩
  · cases hfat : s.fatal <;> simp only [decodeEvent, State.ctx, hfat] at hd <;> cases hd
    · simp [exec, execXportErr, hfat] at hx
      exact .inr (.inr (.inr (.inr (.inr (.inr (.inl ⟨rfl, rfl, hx.symm⟩))))))
    · simp [exec, execAnyEventWhileFatal, hfat] at hx
      exact .inr (.inr (.inr (.inr (.inr (.inr (.inr ⟨rfl, rfl, hx.symm⟩))))))
  · cases hd
    exact .inr (.inr (.inr (.inr (.inl ⟨rfl, hx⟩))))
  · cases hd
    exact .inr (.inl ⟨b, rfl, hr, execRxByte_next hr hx⟩)
  · cases hd
    exact .inr (.inr (.inr (.inr (.inr (.inl ⟨rfl, hx⟩)))))
  · simp only [decodeEvent, decodeSend] at hd
    split at hd
    · rename_i hl
      cases hd
      exact .inr (.inr (.inl ⟨m, rfl, hr, hl, hx⟩))
    split at hd
    · rename_i hl
      cases hd
      have hr' : State.sendReady { s with ports := { s.ports with send := r }, draws := d } = true := hr
      simp only [exec, execSendBadLength, hr', if_true, whenSelected_next] at hx
      obtain ⟨-, hx⟩ := hx
      cases hx
      exact .inr (.inr (.inr (.inl ⟨m, rfl, hr, hl, rfl⟩)))
    · cases hd

end Sys2Proof.Machine
end

