-- ==== Sys2Proof/Laws/PerInstr.lean ====
section
/-! SUPPORT. Per instruction: decoding an encoded well-formed instruction, in a context of its format that
its row admits and with the baseline tables, gives it back. -/

namespace Sys2Proof.Laws

/-- The round trip of one instruction (`30_encoding.md` R102). -/
def RoundTrip.Statement (i : Instr) : Prop :=
  ∀ c : Ctx, i.wellFormed = true → c.fmt = i.format → c.rom = Rom.baseline → c.admits i = true →
    decode c i.encode = .ok i

/-- The frame a legal message is encoded as decodes to it. -/
theorem decodeTxf_encodeFrame {m : List Byte} (h : legalLength m = true) :
    decodeTxf (encodeFrame m) = .ok (.encodeData m) := by
  simp only [legalLength, Bool.and_eq_true, decide_eq_true_eq] at h
  have hl : (lengthByte m).toNat = m.length + 1 := by
    simp only [lengthByte, BitVec.toNat_ofNat]; omega
  simp only [encodeFrame]
  cases hm : m ++ [checksum (lengthByte m) m] with
  | nil => simp at hm
  | cons x xs =>
    rw [← hm]
    simp [decodeTxf, hl, h.1]

theorem RoundTrip.sof : RoundTrip.Statement .sof := by
  intro c _ hf _ _
  simp [decode, Instr.encode, Instr.format, hf, oneByte, decodeFt]

theorem RoundTrip.ack : RoundTrip.Statement .ack := by
  intro c _ hf _ _
  simp [decode, Instr.encode, Instr.format, hf, oneByte, decodeFt]

theorem RoundTrip.nack : RoundTrip.Statement .nack := by
  intro c _ hf _ _
  simp [decode, Instr.encode, Instr.format, hf, oneByte, decodeFt]

theorem RoundTrip.can : RoundTrip.Statement .can := by
  intro c _ hf _ _
  simp [decode, Instr.encode, Instr.format, hf, oneByte, decodeFt]

theorem RoundTrip.ftUnknown (b : Byte) : RoundTrip.Statement (.ftUnknown b) := by
  intro c hw hf _ _
  simp only [Instr.wellFormed, isFrameTag, Bool.not_eq_true', Bool.or_eq_false_iff,
    beq_eq_false_iff_ne] at hw
  obtain ⟨⟨⟨h1, h2⟩, h3⟩, h4⟩ := hw
  have h : decodeFt b = .ftUnknown b := by
    rw [decodeFt, if_neg h1, if_neg h2, if_neg h3, if_neg h4]
  simp [decode, Instr.encode, Instr.format, hf, oneByte, h]

theorem RoundTrip.lenNonzero (b : Byte) : RoundTrip.Statement (.lenNonzero b) := by
  intro c hw hf _ _
  simp [Instr.wellFormed] at hw
  simp [decode, Instr.encode, Instr.format, hf, oneByte, decodeLenb, hw]

theorem RoundTrip.lenZero : RoundTrip.Statement .lenZero := by
  intro c _ hf _ _
  simp [decode, Instr.encode, Instr.format, hf, oneByte, decodeLenb]

theorem RoundTrip.bodyByte (b : Byte) : RoundTrip.Statement (.bodyByte b) := by
  intro c _ hf _ ha
  simp [Ctx.admits] at ha
  simp [decode, Instr.encode, Instr.format, hf, oneByte, decodeBodyb, ha]

theorem RoundTrip.checksumOk (b : Byte) : RoundTrip.Statement (.checksumOk b) := by
  intro c _ hf _ ha
  simp [Ctx.admits] at ha
  simp [decode, Instr.encode, Instr.format, hf, oneByte, decodeBodyb, ha]

theorem RoundTrip.checksumBad (b : Byte) : RoundTrip.Statement (.checksumBad b) := by
  intro c _ hf _ ha
  simp [Ctx.admits] at ha
  simp [decode, Instr.encode, Instr.format, hf, oneByte, decodeBodyb, ha]

theorem RoundTrip.request : RoundTrip.Statement .request := by
  intro c _ hf hr ha
  simp only [Ctx.admits, decide_eq_true_eq] at ha
  simp [decode, Instr.encode, Instr.format, hf, hr, decodeMt, Rom.entry, Rom.baseline, show ¬ c.n < 2 by omega]

theorem RoundTrip.response : RoundTrip.Statement .response := by
  intro c _ hf hr ha
  simp only [Ctx.admits, decide_eq_true_eq] at ha
  simp [decode, Instr.encode, Instr.format, hf, hr, decodeMt, Rom.entry, Rom.baseline, show ¬ c.n < 2 by omega]

theorem RoundTrip.mtUnknown (t : Byte) : RoundTrip.Statement (.mtUnknown t) := by
  intro c hw hf hr ha
  simp only [Instr.wellFormed, Option.isNone_iff_eq_none] at hw
  simp only [Ctx.admits, decide_eq_true_eq] at ha
  simp [decode, Instr.encode, Instr.format, hf, hr, decodeMt, hw, show ¬ c.n < 2 by omega]

theorem RoundTrip.applicationUpdate : RoundTrip.Statement .applicationUpdate := by
  intro c _ hf hr _
  simp [decode, Instr.encode, Instr.format, hf, hr, decodeRq, Rom.entry, Rom.baseline]

theorem RoundTrip.rqUnknown (f : Byte) : RoundTrip.Statement (.rqUnknown f) := by
  intro c hw hf hr _
  simp only [Instr.wellFormed, Option.isNone_iff_eq_none] at hw
  simp [decode, Instr.encode, Instr.format, hf, hr, decodeRq, hw]

theorem RoundTrip.rsUnknown (r : Byte) : RoundTrip.Statement (.rsUnknown r) := by
  intro c hw hf hr _
  simp only [Instr.wellFormed, Option.isNone_iff_eq_none] at hw
  simp [decode, Instr.encode, Instr.format, hf, hr, decodeRs, hw]

theorem RoundTrip.infoReceived : RoundTrip.Statement .infoReceived := by
  intro c _ hf hr _
  simp [decode, Instr.encode, Instr.format, hf, hr, decodeAu, Rom.entry, Rom.baseline]

theorem RoundTrip.auUnknown (t : Byte) : RoundTrip.Statement (.auUnknown t) := by
  intro c hw hf hr _
  simp only [Instr.wellFormed, Option.isNone_iff_eq_none] at hw
  simp [decode, Instr.encode, Instr.format, hf, hr, decodeAu, hw]

theorem RoundTrip.infoReceivedOperands (id : Byte) (rest : List Byte) :
    RoundTrip.Statement (.infoReceivedOperands id rest) := by
  intro c hw hf _ _
  simp only [Instr.wellFormed, decide_eq_true_eq] at hw
  simp [decode, Instr.encode, Instr.format, hf, decodeIr, hw]

theorem RoundTrip.shortMessage : RoundTrip.Statement .shortMessage := by
  intro c _ hf _ _
  simp [decode, Instr.encode, Instr.format, hf, decodeMt]

theorem RoundTrip.dataInReadingFrame : RoundTrip.Statement .dataInReadingFrame := by
  intro c _ hf _ ha
  simp [Ctx.admits] at ha
  simp [decode, Instr.encode, Instr.format, hf, oneByte, FrameKind.byte, FrameKind.code,
    frameKindOfCode, decodeHs, ha]

theorem RoundTrip.ackInReadingFrame : RoundTrip.Statement .ackInReadingFrame := by
  intro c _ hf _ ha
  simp [Ctx.admits] at ha
  simp [decode, Instr.encode, Instr.format, hf, oneByte, FrameKind.byte, FrameKind.code,
    frameKindOfCode, decodeHs, ha]

theorem RoundTrip.nackInReadingFrame : RoundTrip.Statement .nackInReadingFrame := by
  intro c _ hf _ ha
  simp [Ctx.admits] at ha
  simp [decode, Instr.encode, Instr.format, hf, oneByte, FrameKind.byte, FrameKind.code,
    frameKindOfCode, decodeHs, ha]

theorem RoundTrip.canInReadingFrame : RoundTrip.Statement .canInReadingFrame := by
  intro c _ hf _ ha
  simp [Ctx.admits] at ha
  simp [decode, Instr.encode, Instr.format, hf, oneByte, FrameKind.byte, FrameKind.code,
    frameKindOfCode, decodeHs, ha]

theorem RoundTrip.ackInAwaitingAck : RoundTrip.Statement .ackInAwaitingAck := by
  intro c _ hf _ ha
  simp [Ctx.admits] at ha
  simp [decode, Instr.encode, Instr.format, hf, oneByte, FrameKind.byte, FrameKind.code,
    frameKindOfCode, decodeHs, ha]

theorem RoundTrip.nackInAwaitingAck : RoundTrip.Statement .nackInAwaitingAck := by
  intro c _ hf _ ha
  simp [Ctx.admits] at ha
  simp [decode, Instr.encode, Instr.format, hf, oneByte, FrameKind.byte, FrameKind.code,
    frameKindOfCode, decodeHs, ha]

theorem RoundTrip.canInAwaitingAck : RoundTrip.Statement .canInAwaitingAck := by
  intro c _ hf _ ha
  simp [Ctx.admits] at ha
  simp [decode, Instr.encode, Instr.format, hf, oneByte, FrameKind.byte, FrameKind.code,
    frameKindOfCode, decodeHs, ha]

theorem RoundTrip.retryLimit (k : FrameKind) : RoundTrip.Statement (.retryLimit k) := by
  intro c hw hf _ ha
  simp [Instr.wellFormed] at hw
  simp [Ctx.admits] at ha
  rcases hw with rfl | rfl <;> simp [decode, Instr.encode, Instr.format, hf, oneByte, FrameKind.byte, FrameKind.code,
    frameKindOfCode, decodeHs, ha]

theorem RoundTrip.dataInAwaitingAck : RoundTrip.Statement .dataInAwaitingAck := by
  intro c _ hf _ ha
  simp [Ctx.admits] at ha
  simp [decode, Instr.encode, Instr.format, hf, oneByte, FrameKind.byte, FrameKind.code,
    frameKindOfCode, decodeHs, ha]

theorem RoundTrip.dataInAwaitingAckLimit : RoundTrip.Statement .dataInAwaitingAckLimit := by
  intro c _ hf _ ha
  simp [Ctx.admits] at ha
  simp [decode, Instr.encode, Instr.format, hf, oneByte, FrameKind.byte, FrameKind.code,
    frameKindOfCode, decodeHs, ha]

theorem RoundTrip.nonFrame : RoundTrip.Statement .nonFrame := by
  intro c _ hf _ ha
  simp [Ctx.admits] at ha
  obtain ⟨h, hp | hp⟩ := ha <;>
    simp [decode, Instr.encode, Instr.format, hf, oneByte, FrameKind.byte, FrameKind.code,
      frameKindOfCode, decodeHs, h, hp]

theorem RoundTrip.reset (cfg : Cfg) : RoundTrip.Statement (.reset cfg) := by
  intro c _ hf _ _
  simp [decode, Instr.encode, Instr.format, hf, eventOf, decodeEvent]

theorem RoundTrip.rxByte (b : Byte) : RoundTrip.Statement (.rxByte b) := by
  intro c _ hf _ _
  simp [decode, Instr.encode, Instr.format, hf, eventOf, decodeEvent]

theorem RoundTrip.send (m : List Byte) : RoundTrip.Statement (.send m) := by
  intro c hw hf _ _
  simp only [Instr.wellFormed] at hw
  simp [decode, Instr.encode, Instr.format, hf, eventOf, decodeEvent, decodeSend, hw]

theorem RoundTrip.sendBadLength (m : List Byte) : RoundTrip.Statement (.sendBadLength m) := by
  intro c hw hf _ _
  simp only [Instr.wellFormed] at hw
  have h : legalLength m = false := by
    simp only [refusedLength, Bool.or_eq_true, beq_iff_eq] at hw
    rcases hw with h | h <;> simp [legalLength, h]
  simp [decode, Instr.encode, Instr.format, hf, eventOf, decodeEvent, decodeSend, h, hw]

theorem RoundTrip.txDoneWritingMessage : RoundTrip.Statement .txDoneWritingMessage := by
  intro c _ hf _ ha
  simp [Ctx.admits] at ha
  simp [decode, Instr.encode, Instr.format, hf, eventOf, decodeEvent, decodeTxDone, ha]

theorem RoundTrip.txDoneWritingAck : RoundTrip.Statement .txDoneWritingAck := by
  intro c _ hf _ ha
  simp [Ctx.admits] at ha
  simp [decode, Instr.encode, Instr.format, hf, eventOf, decodeEvent, decodeTxDone, ha]

theorem RoundTrip.txDoneWritingAckRetransmit : RoundTrip.Statement .txDoneWritingAckRetransmit := by
  intro c _ hf _ ha
  simp [Ctx.admits] at ha
  simp [decode, Instr.encode, Instr.format, hf, eventOf, decodeEvent, decodeTxDone, ha]

theorem RoundTrip.txDoneSpurious : RoundTrip.Statement .txDoneSpurious := by
  intro c _ hf _ ha
  simp [Ctx.admits] at ha
  obtain ⟨h, hp | hp⟩ := ha <;> simp [decode, Instr.encode, Instr.format, hf, eventOf, decodeEvent,
    decodeTxDone, h, hp]

theorem RoundTrip.timeoutAwaitingAck : RoundTrip.Statement .timeoutAwaitingAck := by
  intro c _ hf _ ha
  simp [Ctx.admits] at ha
  simp [decode, Instr.encode, Instr.format, hf, eventOf, decodeEvent, decodeTimeout, ha]

theorem RoundTrip.timeoutRetryLimit : RoundTrip.Statement .timeoutRetryLimit := by
  intro c _ hf _ ha
  simp [Ctx.admits] at ha
  simp [decode, Instr.encode, Instr.format, hf, eventOf, decodeEvent, decodeTimeout, ha]

theorem RoundTrip.timeoutStale : RoundTrip.Statement .timeoutStale := by
  intro c _ hf _ ha
  simp [Ctx.admits] at ha
  obtain ⟨h, hp⟩ := ha
  cases hq : c.phase <;> first | exact absurd hq hp |
    simp [decode, Instr.encode, Instr.format, hf, eventOf, decodeEvent, decodeTimeout, h, hq]

theorem RoundTrip.xportErr : RoundTrip.Statement .xportErr := by
  intro c _ hf _ ha
  simp [Ctx.admits] at ha
  simp [decode, Instr.encode, Instr.format, hf, eventOf, decodeEvent, ha]

theorem RoundTrip.anyEventWhileFatal (e : FatalEvent) :
    RoundTrip.Statement (.anyEventWhileFatal e) := by
  intro c _ hf _ ha
  simp [Ctx.admits] at ha
  cases e <;> simp [decode, Instr.encode, Instr.format, hf, eventOf, decodeEvent,
    decodeTxDone, decodeTimeout, ha]

theorem RoundTrip.encodeData (m : List Byte) : RoundTrip.Statement (.encodeData m) := by
  intro c hw hf _ _
  simp [decode, Instr.encode, Instr.format, hf, decodeTxf_encodeFrame hw]

theorem RoundTrip.encodeAck : RoundTrip.Statement .encodeAck := by
  intro c _ hf _ _
  simp [decode, Instr.encode, Instr.format, hf, decodeTxf]

end Sys2Proof.Laws
end

