-- ==== Sys2Proof/Tests/Slice0.lean ====
section
/-! SUPPORT. The model's own tests: ill-formed terms, words written out from the spec's tables, one-step tests
whose expected values are the spec's examples, and for each statement with hypotheses a state that meets them. -/

open Sys2Proof Sys2Proof.Machine

namespace Sys2Proof.Tests

/-! ### Well-formedness: what each check refuses -/

theorem test_wf_ftUnknown_sof : (Instr.ftUnknown 0x01).wellFormed = false := by decide
theorem test_wf_ftUnknown_ack : (Instr.ftUnknown 0x06).wellFormed = false := by decide
theorem test_wf_ftUnknown_nack : (Instr.ftUnknown 0x15).wellFormed = false := by decide
theorem test_wf_ftUnknown_can : (Instr.ftUnknown 0x18).wellFormed = false := by decide
theorem test_wf_lenNonzero : (Instr.lenNonzero 0).wellFormed = false := by decide
theorem test_wf_mtUnknown_request : (Instr.mtUnknown 0x00).wellFormed = false := by decide
theorem test_wf_mtUnknown_response : (Instr.mtUnknown 0x01).wellFormed = false := by decide
theorem test_wf_rqUnknown : (Instr.rqUnknown 0x49).wellFormed = false := by decide
theorem test_wf_auUnknown : (Instr.auUnknown 0x84).wellFormed = false := by decide
theorem test_wf_retryLimit_none : (Instr.retryLimit .none).wellFormed = false := by decide
theorem test_wf_retryLimit_data : (Instr.retryLimit .data).wellFormed = false := by decide
theorem test_wf_retryLimit_ack : (Instr.retryLimit .ack).wellFormed = false := by decide
theorem test_wf_send_empty : (Instr.send []).wellFormed = false := by decide
theorem test_wf_send_255 : (Instr.send (List.replicate 255 0)).wellFormed = false := by
  rw [Instr.wellFormed, legalLength, List.length_replicate]
  decide
theorem test_wf_sendBadLength_legal : (Instr.sendBadLength [0x00]).wellFormed = false := by decide
theorem test_wf_sendBadLength_256 : (Instr.sendBadLength (List.replicate 256 0)).wellFormed = false := by
  rw [Instr.wellFormed, refusedLength, List.length_replicate]
  decide
theorem test_wf_encodeData_empty : (Instr.encodeData []).wellFormed = false := by decide
theorem test_wf_infoReceivedOperands_251 :
    (Instr.infoReceivedOperands 7 (List.replicate 251 0)).wellFormed = false := by
  rw [Instr.wellFormed, List.length_replicate]
  decide

/-! ### Decoding: words written out bit by bit (`30_encoding.md` R81 to R102) -/

/-- The context after reset for a format, with the entries that a row's condition reads. -/
def bodyCtx (len cnt csum : Byte) : Ctx := { Ctx.afterReset .bodyb with len := len, cnt := cnt, csum := csum }

/-- The same for a level of the message decoder, with `n` bytes of MSG. -/
def msgCtx (f : Format) (n : Nat) : Ctx := { Ctx.afterReset f with n := n }

/-- The same for the handshake and the events. -/
def linkCtx (f : Format) (p : Phase) (left rtxp fatal : Bool) : Ctx :=
  { Ctx.afterReset f with phase := p, retriesLeft := left, rtxp := rtxp, fatal := fatal }

theorem test_ctx_afterReset (f : Format) : State.reset.ctx f = Ctx.afterReset f := by cases f <;> decide

theorem test_word_sof : decode (Ctx.afterReset .ft) (.bytes [0b00000001]) = .ok .sof := by decide
theorem test_word_ack : decode (Ctx.afterReset .ft) (.bytes [0b00000110]) = .ok .ack := by decide
theorem test_word_nack : decode (Ctx.afterReset .ft) (.bytes [0b00010101]) = .ok .nack := by decide
theorem test_word_can : decode (Ctx.afterReset .ft) (.bytes [0b00011000]) = .ok .can := by decide
theorem test_word_ftUnknown :
    decode (Ctx.afterReset .ft) (.bytes [0b00000000]) = .ok (.ftUnknown 0) := by decide
theorem test_word_lenNonzero :
    decode (Ctx.afterReset .lenb) (.bytes [0b11111111]) = .ok (.lenNonzero 255) := by decide
theorem test_word_lenZero : decode (Ctx.afterReset .lenb) (.bytes [0b00000000]) = .ok .lenZero := by decide
theorem test_word_bodyByte :
    decode (bodyCtx 5 1 0xFA) (.bytes [0b01001001]) = .ok (.bodyByte 0x49) := by decide
theorem test_word_checksumOk :
    decode (bodyCtx 5 4 0x30) (.bytes [0b00110000]) = .ok (.checksumOk 0x30) := by decide
theorem test_word_checksumBad :
    decode (bodyCtx 5 4 0x30) (.bytes [0b00110001]) = .ok (.checksumBad 0x31) := by decide
theorem test_word_bodyOverrun :
    decode (bodyCtx 5 5 0x30) (.bytes [0x30]) = .error .bodyOverrun := by decide
theorem test_word_request : decode (msgCtx .mt 4) (.bytes [0b00000000, 0x49]) = .ok .request := by decide
theorem test_word_response : decode (msgCtx .mt 3) (.bytes [0b00000001, 0x15]) = .ok .response := by decide
theorem test_word_mtUnknown :
    decode (msgCtx .mt 2) (.bytes [0b00000010, 0xAA]) = .ok (.mtUnknown 2) := by decide
theorem test_word_shortMessage : decode (msgCtx .mt 1) (.bytes [0b00000010]) = .ok .shortMessage := by decide
theorem test_word_applicationUpdate :
    decode (msgCtx .rq 4) (.bytes [0b01001001, 0x84, 7]) = .ok .applicationUpdate := by decide
theorem test_word_rqUnknown :
    decode (msgCtx .rq 3) (.bytes [0b01010000, 1]) = .ok (.rqUnknown 0x50) := by decide
theorem test_word_rsUnknown :
    decode (msgCtx .rs 3) (.bytes [0b00010101, 1]) = .ok (.rsUnknown 0x15) := by decide
theorem test_word_infoReceived :
    decode (msgCtx .au 4) (.bytes [0b10000100, 7]) = .ok .infoReceived := by decide
theorem test_word_auUnknown :
    decode (msgCtx .au 4) (.bytes [0b10000101, 9]) = .ok (.auUnknown 0x85) := by decide
theorem test_word_infoReceivedOperands :
    decode (msgCtx .ir 6) (.bytes [0b00000111, 1, 2]) = .ok (.infoReceivedOperands 7 [1, 2]) := by decide
theorem test_word_dataInReadingFrame :
    decode (linkCtx .hs .readingFrame true false false) (.bytes [0b00000001]) = .ok .dataInReadingFrame := by
  decide
theorem test_word_ackInReadingFrame :
    decode (linkCtx .hs .readingFrame true false false) (.bytes [0b00000010]) = .ok .ackInReadingFrame := by
  decide
theorem test_word_nackInReadingFrame :
    decode (linkCtx .hs .readingFrame true false false) (.bytes [0b00000011]) = .ok .nackInReadingFrame := by
  decide
theorem test_word_canInReadingFrame :
    decode (linkCtx .hs .readingFrame true false false) (.bytes [0b00000100]) = .ok .canInReadingFrame := by
  decide
theorem test_word_ackInAwaitingAck :
    decode (linkCtx .hs .awaitingAck false false false) (.bytes [0b00000010]) = .ok .ackInAwaitingAck := by
  decide
theorem test_word_nackInAwaitingAck :
    decode (linkCtx .hs .awaitingAck true false false) (.bytes [0b00000011]) = .ok .nackInAwaitingAck := by
  decide
theorem test_word_canInAwaitingAck :
    decode (linkCtx .hs .awaitingAck true false false) (.bytes [0b00000100]) = .ok .canInAwaitingAck := by
  decide
theorem test_word_retryLimit :
    decode (linkCtx .hs .awaitingAck false false false) (.bytes [0b00000100]) = .ok (.retryLimit .can) := by
  decide
theorem test_word_dataInAwaitingAck :
    decode (linkCtx .hs .awaitingAck true false false) (.bytes [0b00000001]) = .ok .dataInAwaitingAck := by
  decide
theorem test_word_dataInAwaitingAckLimit :
    decode (linkCtx .hs .awaitingAck false false false) (.bytes [0b00000001]) =
      .ok .dataInAwaitingAckLimit := by decide
theorem test_word_nonFrame :
    decode (linkCtx .hs .awaitingAck false false false) (.bytes [0b00000000]) = .ok .nonFrame := by decide
theorem test_word_unusedFrameKind :
    decode (linkCtx .hs .awaitingAck false false false) (.bytes [0b00000101]) = .error .unusedFrameKind := by
  decide
theorem test_word_reset :
    decode (Ctx.afterReset .ev) (.event 0b000 (.config Cfg.suggested)) = .ok (.reset Cfg.suggested) := by
  decide
theorem test_word_rxByte : decode (Ctx.afterReset .ev) (.event 0b001 (.byte 6)) = .ok (.rxByte 6) := by decide
theorem test_word_send :
    decode (Ctx.afterReset .ev) (.event 0b010 (.message [0x00])) = .ok (.send [0x00]) := by decide
theorem test_word_sendBadLength :
    decode (Ctx.afterReset .ev) (.event 0b010 (.message [])) = .ok (.sendBadLength []) := by decide
theorem test_word_txDoneWritingMessage :
    decode (linkCtx .ev .writingMessage true false false) (.event 0b011 .none) =
      .ok .txDoneWritingMessage := by decide
theorem test_word_txDoneWritingAck :
    decode (linkCtx .ev .writingAck true false false) (.event 0b011 .none) = .ok .txDoneWritingAck := by
  decide
theorem test_word_txDoneWritingAckRetransmit :
    decode (linkCtx .ev .writingAck true true false) (.event 0b011 .none) =
      .ok .txDoneWritingAckRetransmit := by decide
theorem test_word_txDoneSpurious :
    decode (linkCtx .ev .awaitingAck true false false) (.event 0b011 .none) = .ok .txDoneSpurious := by
  decide
theorem test_word_timeoutAwaitingAck :
    decode (linkCtx .ev .awaitingAck true false false) (.event 0b100 .none) = .ok .timeoutAwaitingAck := by
  decide
theorem test_word_timeoutRetryLimit :
    decode (linkCtx .ev .awaitingAck false false false) (.event 0b100 .none) = .ok .timeoutRetryLimit := by
  decide
theorem test_word_timeoutStale :
    decode (linkCtx .ev .writingAck true true false) (.event 0b100 .none) = .ok .timeoutStale := by decide
theorem test_word_xportErr : decode (Ctx.afterReset .ev) (.event 0b101 .none) = .ok .xportErr := by decide
theorem test_word_anyEventWhileFatal :
    decode (linkCtx .ev .awaitingAck false false true) (.event 0b100 .none) =
      .ok (.anyEventWhileFatal .timeout) := by decide
theorem test_word_encodeData :
    decode (Ctx.afterReset .txf) (.bytes [0x01, 0x04, 0x00, 0x13, 0x05, 0xED]) =
      .ok (.encodeData [0x00, 0x13, 0x05]) := by decide
theorem test_word_encodeAck : decode (Ctx.afterReset .txf) (.bytes [0b00000110]) = .ok .encodeAck := by decide

/-! ### Table words and the first step after reset -/

theorem test_table_sof : decodeTableWord 8 0x01 = some .sof := by decide
theorem test_table_reset :
    decodeTableWord 8 0x00 = some (.reset (Cfg.mk 0 0)) := by decide
theorem test_table_timeout : decodeTableWord 8 0x04 = some .timeoutStale := by decide
theorem test_table_ftUnknown : decodeTableWord 8 0x49 = some (.ftUnknown 0x49) := by decide
theorem test_table_tooLong : decodeTableWord 16 0x0101 = none := by decide

/-- A field of the next state, if the outcome is one. -/
def after {α : Type} (r : Result) (f : State → α) : Option α :=
  match r with
  | .next t => some (f t)
  | .fault _ => none
  | .refused _ => none

theorem test_fetch_sof : after (step (State.reset.withFetchWord 8 0x01)) State.pst = some .len := by decide
theorem test_fetch_xportErr :
    after (step (State.reset.withFetchWord 8 0x05)) State.fcause = some .transport := by decide

/-! ### One step each: the examples of the rules -/

/-- P_IDLE, ReadingFrame. -/
def idleSt : State := { State.reset with retry := 1 }

/-- P_LEN. -/
def lenSt : State := { State.reset with pst := .len }

/-- The body of `01 05 00 49 84 07 30` up to its checksum (`40_frame_parser.md` R119). -/
def bodySt : State :=
  { State.reset with pst := .body, len := 5, cnt := 4, csum := 0x30,
                     rxbuf := [(0, 0x00), (1, 0x49), (2, 0x84), (3, 0x07)] }

/-- A frame of LEN = 5 with one body byte stored (`40_frame_parser.md` R118). -/
def midSt : State :=
  { State.reset with pst := .body, len := 5, cnt := 1, csum := 0xFA, rxbuf := [(0, 0x00)] }

/-- OUTBUF with the frame of `00 13 05` (`44_frame_encoder.md` R190). -/
def outMem : Memory := [(0, 0x01), (1, 0x04), (2, 0x00), (3, 0x13), (4, 0x05), (5, 0xED)]

/-- AwaitingAck with that message in flight, and a RETRY. -/
def waitSt (retry : Byte) : State :=
  { State.reset with phase := .awaitingAck, retry := retry, outbuf := outMem, outlen := 6 }

/-- The same with a Data frame one byte short. -/
def waitBodySt (retry : Byte) : State :=
  { bodySt with phase := .awaitingAck, retry := retry, outbuf := outMem, outlen := 6 }

/-- A writing phase with that message in flight. -/
def writeSt (p : Phase) (rtxp : Bool) : State :=
  { State.reset with phase := p, rtxp := rtxp, outbuf := outMem, outlen := 6 }

/-- The middle of the step that completes a Data frame with the message given. -/
def msgSt (len : Byte) (cells : Memory) : State :=
  { State.reset with len := len, rxbuf := cells, report := { frameKind := .data, consumed := 7 } }

/-- The middle of a step that completes a frame of a kind, in a phase. -/
def hsSt (k : FrameKind) (p : Phase) (retry : Byte) : State :=
  { State.reset with phase := p, retry := retry, report := { frameKind := k, consumed := 1 } }

/-- The fatal condition after the retry limit. -/
def fatalSt : State := { waitSt 3 with fatal := true, fcause := .retryLimit }

/-- After the Ack of the Data frame `01 03 02 AA 54`, the first of the run: MSG = 02 AA is unknown at level
Message, and the view of its remainder is live. -/
def viewSt : State :=
  { State.reset with len := 3, cnt := 3, csum := 0x54, rxbuf := [(0, 0x02), (1, 0xAA), (2, 0x54)],
                     frames := 1, view := some { serial := 1, off := 0, len := 2 } }

/-- The same Data frame again, up to its checksum, after the first one's view has ended. -/
def againSt : State :=
  { viewSt with pst := .body, cnt := 2, rxbuf := [(0, 0x02), (1, 0xAA)], view := none }

theorem test_sof : after (exec .sof idleSt) State.pst = some .len := by decide
theorem test_ack_readingFrame :
    after (exec .ack idleSt) (fun t => (t.report.rpt, t.report.frameKind, t.phase)) =
      some (.frameEvent, .ack, .readingFrame) := by decide
theorem test_ack_awaitingAck :
    after (exec .ack (waitSt 2)) (fun t => (t.phase, t.retry)) = some (.readingFrame, 0) := by decide
theorem test_nack_awaitingAck :
    after (exec .nack (waitSt 0)) (fun t => (t.retry, t.phase, t.report.needsWrite)) =
      some (1, .writingMessage, .out) := by decide
theorem test_nack_limit : after (exec .nack (waitSt 3)) (fun t => (t.fatal, t.retry)) = some (true, 3) := by decide
theorem test_can_awaitingAck :
    after (exec .can (waitSt 1)) (fun t => (t.retry, t.report.frameKind)) = some (2, .can) := by decide
theorem test_ftUnknown :
    after (exec (.ftUnknown 0x00) idleSt) (fun t => (t.report.err, t.report.consumed, t.pst)) =
      some (.unknownFrameType, 1, .idle) := by decide
theorem test_lenNonzero :
    after (exec (.lenNonzero 5) lenSt) (fun t => (t.len, t.cnt, t.csum, t.pst)) =
      some (5, 0, 0xFA, .body) := by decide
theorem test_lenZero :
    after (exec .lenZero lenSt) (fun t => (t.report.err, t.report.consumed, t.pst)) =
      some (.shortMessage, 2, .idle) := by decide
theorem test_bodyByte :
    after (exec (.bodyByte 0x49) midSt) (fun t => (Memory.read t.rxbuf 1, t.csum, t.cnt)) =
      some (some 0x49, 0xB3, 2) := by decide
theorem test_checksumOk :
    after (exec (.checksumOk 0x30) bodySt) (fun t => (t.report.rpt, t.report.nodeId, t.report.consumed, t.phase)) =
      some (.message, 0x07, 7, .writingAck) := by decide
theorem test_checksumOk_violation :
    after (exec (.checksumOk 0x30) (waitBodySt 0)) (fun t => (t.report.violation, t.rtxp, t.retry)) =
      some (true, true, 1) := by decide
theorem test_checksumBad :
    after (exec (.checksumBad 0x31) bodySt) (fun t => (t.report.err, t.report.consumed, t.phase)) =
      some (.invalidChecksum, 7, .readingFrame) := by decide

/-- `MSG = 00 49 84 07 01 02` (`42_message_decoder.md` R148). -/
def infoSt : State :=
  msgSt 7 [(0, 0x00), (1, 0x49), (2, 0x84), (3, 0x07), (4, 0x01), (5, 0x02)]

theorem test_request :
    after (exec .request infoSt) (fun t => (t.report.nodeId, t.report.restOff, t.report.restLen)) =
      some (0x07, 4, 2) := by decide
theorem test_applicationUpdate :
    after (exec .applicationUpdate infoSt) (fun t => t.report.msgKind) = some .infoReceived := by decide
theorem test_infoReceived :
    after (exec .infoReceived infoSt) (fun t => t.report.nodeId) = some 0x07 := by decide
theorem test_infoReceivedOperands :
    after (exec (.infoReceivedOperands 0x07 [0x01, 0x02]) infoSt)
      (fun t => (t.report.rpt, t.report.restLen)) = some (.message, 2) := by decide
theorem test_response :
    after (exec .response (msgSt 4 [(0, 0x01), (1, 0x15), (2, 0x01)]))
      (fun t => (t.report.remOff, t.report.remLen, t.report.errTag)) = some (1, 2, 0x15) := by decide
theorem test_rsUnknown :
    after (exec (.rsUnknown 0x15) (msgSt 4 [(0, 0x01), (1, 0x15), (2, 0x01)]))
      (fun t => t.report.err) = some .unknownType := by decide
theorem test_mtUnknown :
    after (exec (.mtUnknown 0x02) (msgSt 3 [(0, 0x02), (1, 0xAA)]))
      (fun t => (t.report.remOff, t.report.remLen, t.report.errTag)) = some (0, 2, 0x02) := by decide
theorem test_rqUnknown :
    after (exec (.rqUnknown 0x50) (msgSt 4 [(0, 0x00), (1, 0x50), (2, 0x01)]))
      (fun t => (t.report.remOff, t.report.remLen, t.report.errTag)) = some (1, 2, 0x50) := by decide
theorem test_auUnknown :
    after (exec (.auUnknown 0x85) (msgSt 5 [(0, 0x00), (1, 0x49), (2, 0x85), (3, 0x09)]))
      (fun t => (t.report.remOff, t.report.remLen, t.report.errTag)) = some (2, 2, 0x85) := by decide
theorem test_shortMessage :
    after (exec .shortMessage (msgSt 4 [(0, 0x00), (1, 0x49), (2, 0x84)])) (fun t => t.report.err) =
      some .shortMessage := by decide
theorem test_shortMessage_one :
    after (exec .shortMessage (msgSt 2 [(0, 0x02)])) (fun t => t.report.err) = some .shortMessage := by decide

theorem test_dataInReadingFrame :
    after (exec .dataInReadingFrame (hsSt .data .readingFrame 0)) State.txBytes =
      some (some (.ok [0x06])) := by decide
theorem test_ackInReadingFrame :
    after (exec .ackInReadingFrame (hsSt .ack .readingFrame 0)) State.phase = some .readingFrame := by decide
theorem test_nackInReadingFrame :
    after (exec .nackInReadingFrame (hsSt .nack .readingFrame 2)) State.retry = some 2 := by decide
theorem test_canInReadingFrame :
    after (exec .canInReadingFrame (hsSt .can .readingFrame 0)) (fun t => t.report.rpt) =
      some .frameEvent := by decide
theorem test_ackInAwaitingAck :
    after (exec .ackInAwaitingAck (hsSt .ack .awaitingAck 3)) (fun t => (t.phase, t.retry)) =
      some (.readingFrame, 0) := by decide
theorem test_nackInAwaitingAck :
    after (exec .nackInAwaitingAck (hsSt .nack .awaitingAck 2)) State.retry = some 3 := by decide
theorem test_canInAwaitingAck :
    after (exec .canInAwaitingAck (hsSt .can .awaitingAck 1)) State.phase = some .writingMessage := by decide
theorem test_retryLimit :
    after (exec (.retryLimit .can) (hsSt .can .awaitingAck 3)) (fun t => (t.fcause, t.phase)) =
      some (.retryLimit, .awaitingAck) := by decide
theorem test_dataInAwaitingAck :
    after (exec .dataInAwaitingAck (hsSt .data .awaitingAck 0)) (fun t => (t.rtxp, t.phase)) =
      some (true, .writingAck) := by decide
theorem test_dataInAwaitingAckLimit :
    after (exec .dataInAwaitingAckLimit (hsSt .data .awaitingAck 3))
      (fun t => (t.report.rpt, t.report.violation, t.fatal)) = some (.fatal, true, true) := by decide
theorem test_nonFrame :
    after (exec .nonFrame (hsSt .none .awaitingAck 3)) State.retry = some 3 := by decide

theorem test_reset : after (exec (.reset (Cfg.mk 0 5)) fatalSt) (fun t => (t.fatal, t.cfg.maxRetry)) =
    some (false, 0) := by decide
theorem test_rxByte : after (exec (.rxByte 0x30) bodySt) State.phase = some .writingAck := by decide
theorem test_rxByte_held :
    after (exec (.rxByte 0x06) (writeSt .writingAck false)) (fun t => t.ports.rx) = some [0x06] := by decide
theorem test_send :
    after (exec (.send [0x00, 0x13, 0x05]) State.reset) (fun t => (t.outbuf, t.outlen, t.phase)) =
      some (outMem, 6, .writingMessage) := by decide
theorem test_send_held :
    after (exec (.send [0x00]) lenSt) (fun t => t.ports.send) = some [[0x00]] := by decide
theorem test_sendBadLength :
    after (exec (.sendBadLength []) State.reset) (fun t => (t.report.rpt, t.report.err, t.phase)) =
      some (.sendRejected, .sendLength, .readingFrame) := by decide
theorem test_txDoneWritingMessage :
    after (exec .txDoneWritingMessage (writeSt .writingMessage false)) State.phase = some .awaitingAck := by
  decide
theorem test_txDoneWritingAck :
    after (exec .txDoneWritingAck (writeSt .writingAck false)) State.phase = some .readingFrame := by decide
theorem test_txDoneWritingAckRetransmit :
    after (exec .txDoneWritingAckRetransmit (writeSt .writingAck true)) (fun t => (t.phase, t.rtxp)) =
      some (.writingMessage, false) := by decide
theorem test_txDoneSpurious :
    after (exec .txDoneSpurious State.reset) State.phase = some .readingFrame := by decide
theorem test_timeoutAwaitingAck :
    after (exec .timeoutAwaitingAck (waitSt 0)) (fun t => (t.retry, t.phase, t.report.rpt)) =
      some (1, .writingMessage, .needsWrite) := by decide
theorem test_timeoutRetryLimit :
    after (exec .timeoutRetryLimit (waitSt 3)) (fun t => (t.report.rpt, t.report.err)) =
      some (.fatal, .retryLimit) := by decide
theorem test_timeoutStale :
    after (exec .timeoutStale (writeSt .writingMessage false)) State.retry = some 0 := by decide
theorem test_xportErr :
    after (exec .xportErr (waitSt 0)) (fun t => (t.fcause, t.phase, t.report.rpt)) =
      some (.transport, .awaitingAck, .transportError) := by decide
theorem test_anyEventWhileFatal :
    after (exec (.anyEventWhileFatal .xportErr) fatalSt) State.fcause = some .retryLimit := by decide
theorem test_encodeData :
    after (exec (.encodeData [0x00, 0x13, 0x05]) State.reset) State.outbuf = some outMem := by decide
theorem test_encodeAck :
    after (exec .encodeAck (writeSt .writingAck true)) State.txBytes = some (some (.ok [0x06])) := by decide

/-- A live view answers its cells; one of an earlier report, with the same cells of the same message, is
refused (`70_reset_and_hazards.md` R262). -/
theorem test_view_live :
    after (exec (.checksumOk 0x54) againSt) (fun t => t.readView { serial := 2, off := 0, len := 2 }) =
      some (.ok [0x02, 0xAA]) := by decide
theorem test_view_expired :
    after (exec (.checksumOk 0x54) againSt) (fun t => t.readView { serial := 1, off := 0, len := 2 }) =
      some (.error .viewExpired) := by decide

/-- MSG = 00 49 84 is a ShortMessage, and its report gives no view (`20_memory.md` R67). -/
theorem test_view_shortMessage :
    after (exec (.checksumOk 0x36)
      { State.reset with pst := .body, len := 4, cnt := 3, csum := 0x36,
                         rxbuf := [(0, 0x00), (1, 0x49), (2, 0x84)] })
      (fun t => (t.report.err, t.view, t.readView { serial := 1, off := 0, len := 3 })) =
      some (.shortMessage, none, .error .viewExpired) := by decide

/-- `compute(0x05, 00 49 84 07) = 0x30` (`41_checksum.md` R130). -/
theorem test_checksum : checksum 0x05 [0x00, 0x49, 0x84, 0x07] = 0x30 := by decide
theorem test_checksum_empty : checksum 0x01 [] = 0xFE := by decide

/-! ### For each statement, a state and operands that meet its hypotheses -/

theorem witness_DecodeEncodeAgree :
    (Instr.encodeData [0x00]).wellFormed = true ∧ (Ctx.afterReset .txf).fmt = (Instr.encodeData [0x00]).format ∧
    (Ctx.afterReset .txf).rom = Rom.baseline ∧ (Ctx.afterReset .txf).admits (.encodeData [0x00]) = true := by
  decide

theorem witness_DecodedRowIsSelected :
    (bodyCtx 1 0 0xFE).rom = Rom.baseline ∧ decode (bodyCtx 1 0 0xFE) (.bytes [0xFE]) = .ok (.checksumOk 0xFE) := by
  decide

theorem witness_DecodedRowIsSelected_prefix :
    readsFirst (msgCtx .mt 2).fmt = true ∧ (msgCtx .mt 2).rom = Rom.baseline ∧
    decode (msgCtx .mt 2) (.bytes [0x00, 0x49]) = .ok .request ∧ Instr.request.encode = .bytes [0x00] := by
  decide

theorem witness_DecodedRowIsSelected_short :
    (msgCtx .au 3).rom = Rom.baseline ∧ decode (msgCtx .au 3) (.bytes []) = .ok .shortMessage ∧
    decode (msgCtx .ir 3) (.bytes []) = .ok .shortMessage ∧
    decode (msgCtx .mt 1) (.bytes [0x00]) = .ok .shortMessage := by decide

theorem witness_TagMaps :
    idleSt.pst = .idle ∧ (0x00 : Byte) ≠ 0x01 ∧ (0x00 : Byte) ≠ 0x06 ∧ (0x00 : Byte) ≠ 0x15 ∧
    (0x00 : Byte) ≠ 0x18 := by decide

theorem witness_EventCodes : (Ctx.afterReset .ev).fmt = .ev := by decide

/-- One byte waiting, the last of a valid Data frame. -/
def rxSt : State := { bodySt with ports := { rx := [0x30] } }

theorem witness_StepRunsDecodedEvent :
    rxSt.fetch = some (.rxByte 0x30, { rxSt with ports := {} }) ∧
    decode (State.ctx { rxSt with ports := {} } .ev) (Event.rxByte 0x30).toInput = .ok (.rxByte 0x30) ∧
    (Instr.rxByte 0x30).wellFormed = true := by decide

theorem witness_StepTakesTheOnlyEvent_rxByte :
    rxSt.ports = portsWith (.rxByte 0x30) ∧ rxSt.rxReady = true := by decide

theorem witness_StepTakesTheOnlyEvent_send :
    State.ports { State.reset with ports := { send := [[0x00]] } } = portsWith (.send [0x00]) ∧
    State.sendReady { State.reset with ports := { send := [[0x00]] } } = true := by decide

/-- The oldest of two requests at a port is the one fetched, and the other stays (log 19). -/
theorem witness_FetchTakesOnePendingEvent :
    State.fetch { idleSt with ports := { reset := [Cfg.mk 0 5, Cfg.suggested] } } =
      some (.reset (Cfg.mk 0 5), { idleSt with ports := { reset := [Cfg.suggested] } }) ∧
    State.fetch { idleSt with ports := { send := [[0x00], [0x01]] } } =
      some (.send [0x00], { idleSt with ports := { send := [[0x01]] } }) ∧
    State.fetch { idleSt with ports := { rx := [0x06, 0x15] } } =
      some (.rxByte 0x06, { idleSt with ports := { rx := [0x15] } }) ∧
    State.fetch { idleSt with ports := { xportErr := 2 } } =
      some (.xportErr, { idleSt with ports := { xportErr := 1 } }) := by decide

theorem witness_IdleStepKeepsState :
    (writeSt .writingAck false).ports.reset = [] ∧ (writeSt .writingAck false).ports.xportErr = 0 ∧
    (writeSt .writingAck false).ports.txDone = 0 ∧ (writeSt .writingAck false).ports.timeout = 0 ∧
    (writeSt .writingAck false).rxReady = false ∧ (writeSt .writingAck false).sendReady = false := by decide

/-- A writing phase with a byte and a send request waiting, and a write completion. -/
def heldSt : State :=
  { writeSt .writingAck false with ports := { rx := [0x06], send := [[0x00]], txDone := 1 } }

theorem witness_EnableConditions_waiting :
    heldSt.ports.rx = [0x06] ∧ heldSt.ports.send = [[0x00]] ∧ heldSt.ports.txDone = 0 + 1 ∧
    heldSt.rxReady = false ∧ heldSt.sendReady = false := by decide

theorem witness_EnableConditions_step :
    after (step heldSt) (fun t => (t.ports.rx, t.ports.send)) = some ([0x06], [[0x00]]) := by decide

theorem witness_EnableConditions_ports :
    State.ports { idleSt with ports := { xportErr := 1, timeout := 1, reset := [Cfg.suggested] } } =
      { xportErr := 0 + 1, timeout := 0 + 1, reset := Cfg.suggested :: [] } := by decide

theorem witness_HeldEventsWait :
    heldSt.rxReady = false ∧ heldSt.sendReady = false ∧ 1 ≤ ([0x00] : List Byte).length ∧
    ([0x00] : List Byte).length ≤ 254 ∧ ([] : List Byte).length = 0 := by decide

theorem witness_HeldEventsWait_longest :
    heldSt.sendReady = false ∧ (List.replicate 254 (0 : Byte)).length = 254 ∧
    (List.replicate 255 (0 : Byte)).length = 255 := ⟨by decide, List.length_replicate, List.length_replicate⟩

theorem witness_StreamOrderKept :
    after (step rxSt) (fun t => (t.ports.rx, t.ports.send)) = some ([], []) := by decide

theorem witness_RxByteRunsParserRow :
    bodySt.rxReady = true ∧
    decode (bodySt.ctx (formatOf bodySt.pst)) (.bytes [0x30]) = .ok (.checksumOk 0x30) := by decide

/-- A state in the middle of a frame that has the invariant: the premise `Inv` is met outside reset too. -/
theorem witness_inv_body : rxSt.Inv where
  rxbufWf := by decide
  outbufWf := by decide
  body := fun _ => ⟨by decide, [0x00, 0x49, 0x84, 0x07], by decide, by decide⟩
  retryMax := by decide
  rtxpPhase := by decide
  outFrame := by decide
  fatalIff := by decide
  liveView := by simp [rxSt, bodySt, State.reset]
  sendArgs := by simp [rxSt]
  errCode := by decide

/-- A writing phase with a message in flight that has the invariant. -/
theorem witness_inv_writing : (writeSt .writingMessage false).Inv where
  rxbufWf := by decide
  outbufWf := by decide
  body := by decide
  retryMax := by decide
  rtxpPhase := by decide
  outFrame := fun _ => ⟨by decide, by decide, [0x01, 0x04, 0x00, 0x13, 0x05, 0xED], by decide, by decide⟩
  fatalIff := by decide
  liveView := by simp [writeSt, State.reset]
  sendArgs := by simp [writeSt, State.reset]
  errCode := by decide

theorem witness_inv_view : viewSt.Inv where
  rxbufWf := by decide
  outbufWf := by decide
  body := by decide
  retryMax := by decide
  rtxpPhase := by decide
  outFrame := by decide
  fatalIff := by decide
  liveView := by
    intro v h
    cases h
    exact ⟨by decide, by decide, [0x02, 0xAA], by decide⟩
  sendArgs := by simp [viewSt, State.reset]
  errCode := by decide

theorem witness_RxByteTable : rxSt.Inv ∧ rxSt.rxReady = true := ⟨witness_inv_body, by decide⟩

theorem witness_FrameStartResult :
    idleSt.rxReady = true ∧ idleSt.pst = .idle ∧ lenSt.rxReady = true ∧ lenSt.pst = .len ∧ (1 : Byte) ≠ 0 ∧
    (255 : Byte) ≠ 0 := by decide

theorem witness_AckTagResult :
    idleSt.fatal = false ∧ idleSt.pst = .idle ∧ idleSt.phase = .readingFrame ∧ (waitSt 3).fatal = false ∧
    (waitSt 3).pst = .idle ∧ (waitSt 3).phase = .awaitingAck := by decide

theorem witness_NackAndCanTagResult :
    idleSt.fatal = false ∧ idleSt.pst = .idle ∧ idleSt.phase = .readingFrame ∧
    (waitSt 2).fatal = false ∧ (waitSt 2).pst = .idle ∧ (waitSt 2).phase = .awaitingAck ∧
    (waitSt 2).retry.toNat < (waitSt 2).cfg.maxRetry.toNat ∧
    (waitSt 3).phase = .awaitingAck ∧ (waitSt 3).cfg.maxRetry.toNat ≤ (waitSt 3).retry.toNat := by decide

theorem witness_HeaderErrorResult :
    idleSt.rxReady = true ∧ idleSt.pst = .idle ∧ (0xFF : Byte) ≠ 0x01 ∧ (0xFF : Byte) ≠ 0x06 ∧
    (0xFF : Byte) ≠ 0x15 ∧ (0xFF : Byte) ≠ 0x18 ∧ lenSt.rxReady = true ∧ lenSt.pst = .len := by decide

theorem witness_BodyByteResult :
    midSt.rxReady = true ∧ midSt.pst = .body ∧ midSt.cnt.toNat < midSt.len.toNat - 1 := by decide

/-- The longest body, one byte before its checksum. -/
theorem witness_BodyByteResult_last :
    State.rxReady { midSt with len := 255, cnt := 253 } = true ∧
    State.pst { midSt with len := 255, cnt := 253 } = .body ∧
    (253 : Byte).toNat < (255 : Byte).toNat - 1 := by decide

theorem witness_ChecksumOkResult :
    bodySt.fatal = false ∧ bodySt.pst = .body ∧ bodySt.cnt.toNat + 1 = bodySt.len.toNat ∧
    (0x30 : Byte) = bodySt.csum ∧
    Memory.view bodySt.rxbuf 0 bodySt.cnt.toNat = some [0x00, 0x49, 0x84, 0x07] ∧
    bodySt.phase = .readingFrame := by decide

theorem witness_ChecksumOkResult_awaiting :
    (waitBodySt 2).fatal = false ∧ (waitBodySt 2).pst = .body ∧
    (waitBodySt 2).cnt.toNat + 1 = (waitBodySt 2).len.toNat ∧ (0x30 : Byte) = (waitBodySt 2).csum ∧
    Memory.view (waitBodySt 2).rxbuf 0 (waitBodySt 2).cnt.toNat = some [0x00, 0x49, 0x84, 0x07] ∧
    (waitBodySt 2).phase = .awaitingAck ∧
    (waitBodySt 2).retry.toNat < (waitBodySt 2).cfg.maxRetry.toNat ∧
    (waitBodySt 3).cfg.maxRetry.toNat ≤ (waitBodySt 3).retry.toNat := by decide

theorem witness_ChecksumBadResult :
    bodySt.rxReady = true ∧ bodySt.pst = .body ∧ bodySt.cnt.toNat + 1 = bodySt.len.toNat ∧
    (0x31 : Byte) ≠ bodySt.csum := by decide

theorem witness_LevelRowsGoOn :
    infoSt.report.frameKind = .data ∧ Rom.entry infoSt.rom.l0 0x00 = some .request ∧
    Rom.entry infoSt.rom.req 0x49 = some .applicationUpdate ∧
    Rom.entry infoSt.rom.au 0x84 = some .infoReceived ∧
    infoSt.message = .ok (0x00 :: 0x49 :: 0x84 :: [0x07, 0x01, 0x02]) := by decide

theorem witness_InfoReceivedResult :
    (msgSt 5 [(0, 0x00), (1, 0x49), (2, 0x84), (3, 0x07)]).report.frameKind = .data ∧
    (msgSt 5 [(0, 0x00), (1, 0x49), (2, 0x84), (3, 0x07)]).rom = Rom.baseline ∧
    (msgSt 5 [(0, 0x00), (1, 0x49), (2, 0x84), (3, 0x07)]).message =
      .ok (0x00 :: 0x49 :: 0x84 :: 0x07 :: []) := by decide

theorem witness_UnknownTypeResult_type :
    (msgSt 3 [(0, 0xFF), (1, 0xAA)]).report.frameKind = .data ∧
    Rom.entry (msgSt 3 [(0, 0xFF), (1, 0xAA)]).rom.l0 0xFF = none ∧
    (msgSt 3 [(0, 0xFF), (1, 0xAA)]).message = .ok (0xFF :: 0xAA :: []) := by decide

theorem witness_UnknownTypeResult_request :
    (msgSt 3 [(0, 0x00), (1, 0x50)]).report.frameKind = .data ∧
    Rom.entry (msgSt 3 [(0, 0x00), (1, 0x50)]).rom.l0 0x00 = some .request ∧
    Rom.entry (msgSt 3 [(0, 0x00), (1, 0x50)]).rom.req 0x50 = none ∧
    (msgSt 3 [(0, 0x00), (1, 0x50)]).message = .ok (0x00 :: 0x50 :: []) := by decide

theorem witness_UnknownTypeResult_update :
    (msgSt 4 [(0, 0x00), (1, 0x49), (2, 0x85)]).report.frameKind = .data ∧
    Rom.entry (msgSt 4 [(0, 0x00), (1, 0x49), (2, 0x85)]).rom.au 0x85 = none ∧
    (msgSt 4 [(0, 0x00), (1, 0x49), (2, 0x85)]).message = .ok (0x00 :: 0x49 :: 0x85 :: []) := by decide

theorem witness_ResponseAlwaysUnknown :
    (msgSt 3 [(0, 0x01), (1, 0x15)]).report.frameKind = .data ∧
    Rom.entry (msgSt 3 [(0, 0x01), (1, 0x15)]).rom.l0 0x01 = some .response ∧
    (msgSt 3 [(0, 0x01), (1, 0x15)]).message = .ok (0x01 :: 0x15 :: []) := by decide

theorem witness_ShortMessageExactly :
    (msgSt 1 []).report.frameKind = .data ∧ (msgSt 1 []).rom = Rom.baseline ∧
    (msgSt 1 []).message = .ok [] ∧ (msgSt 2 [(0, 0x02)]).message = .ok [0x02] ∧
    (msgSt 3 [(0, 0x00), (1, 0x49)]).message = .ok [0x00, 0x49] ∧
    (msgSt 4 [(0, 0x00), (1, 0x49), (2, 0x84)]).message = .ok [0x00, 0x49, 0x84] := by decide

theorem witness_DecoderRowsCompose :
    isDecoderRow .request = true ∧ after (exec .request infoSt) (fun t => t.report.rpt) = some .message := by
  decide

theorem witness_DecodedViewsInsideMessage :
    decodeMessage Rom.baseline [0x02, 0xAA] = .unknownType 0 2 0x02 ∧
    decodeMessage Rom.baseline [0x00, 0x50] = .unknownType 1 1 0x50 ∧
    decodeMessage Rom.baseline [0x01, 0x15] = .unknownType 1 1 0x15 ∧
    decodeMessage Rom.baseline [0x00, 0x49, 0x85] = .unknownType 2 1 0x85 ∧
    decodeMessage Rom.baseline [0x00, 0x49, 0x84, 0x07] = .message .infoReceived 0x07 4 0 := by decide

theorem witness_FramesInReadingFrame :
    (hsSt .data .readingFrame 0).fatal = false ∧ (hsSt .data .readingFrame 0).phase = .readingFrame ∧
    (hsSt .data .readingFrame 0).report.frameKind = .data ∧
    (hsSt .ack .readingFrame 0).report.frameKind = .ack ∧
    (hsSt .nack .readingFrame 0).report.frameKind = .nack ∧
    (hsSt .can .readingFrame 0).report.frameKind = .can := by decide

theorem witness_ControlFramesInAwaitingAck :
    (hsSt .ack .awaitingAck 3).fatal = false ∧ (hsSt .ack .awaitingAck 3).phase = .awaitingAck ∧
    (hsSt .ack .awaitingAck 3).report.frameKind = .ack ∧
    (hsSt .nack .awaitingAck 2).report.frameKind = .nack ∧
    (hsSt .can .awaitingAck 2).report.frameKind = .can ∧
    (hsSt .can .awaitingAck 2).retry.toNat < (hsSt .can .awaitingAck 2).cfg.maxRetry.toNat := by decide

theorem witness_RetryLimitIsFatal :
    (hsSt .nack .awaitingAck 3).fatal = false ∧ (hsSt .nack .awaitingAck 3).phase = .awaitingAck ∧
    (hsSt .nack .awaitingAck 3).cfg.maxRetry.toNat ≤ (hsSt .nack .awaitingAck 3).retry.toNat ∧
    (hsSt .nack .awaitingAck 3).report.frameKind = .nack ∧
    (hsSt .nack .awaitingAck 3).report.needsWrite = .none ∧
    (hsSt .can .awaitingAck 3).report.frameKind = .can := by decide

theorem witness_DataInAwaitingAckResult :
    (hsSt .data .awaitingAck 2).fatal = false ∧ (hsSt .data .awaitingAck 2).phase = .awaitingAck ∧
    (hsSt .data .awaitingAck 2).report.frameKind = .data ∧
    (hsSt .data .awaitingAck 2).retry.toNat < (hsSt .data .awaitingAck 2).cfg.maxRetry.toNat ∧
    (hsSt .data .awaitingAck 3).cfg.maxRetry.toNat ≤ (hsSt .data .awaitingAck 3).retry.toNat := by decide

theorem witness_FragmentsDoNotDriveHandshake :
    idleSt.rxReady = true ∧ after (exec (.ftUnknown 0x02) idleSt) State.phase = some .readingFrame ∧
    lenSt.rxReady = true ∧ after (exec .lenZero lenSt) State.phase = some .readingFrame ∧
    bodySt.rxReady = true ∧ after (exec (.checksumBad 0x31) bodySt) State.phase = some .readingFrame ∧
    (hsSt .none .awaitingAck 3).rxReady = true ∧ (hsSt .none .awaitingAck 3).report.frameKind = .none := by
  decide

theorem witness_SendResult :
    State.reset.sendReady = true ∧ 1 ≤ ([0x00] : List Byte).length ∧ ([0x00] : List Byte).length ≤ 254 := by
  decide

theorem witness_SendResult_longest :
    State.reset.sendReady = true ∧ (List.replicate 254 (0 : Byte)).length = 254 :=
  ⟨by decide, List.length_replicate⟩

theorem witness_SendRefused :
    State.reset.sendReady = true ∧ ([] : List Byte).length = 0 ∧
    (List.replicate 255 (0 : Byte)).length = 255 := ⟨by decide, rfl, List.length_replicate⟩

theorem witness_EncodeRowsResult :
    State.reset.sendReady = true ∧ 1 ≤ ([0x00] : List Byte).length ∧ ([0x00] : List Byte).length ≤ 254 ∧
    (writeSt .writingAck true).fatal = false ∧ (writeSt .writingAck true).phase = .writingAck := by decide

theorem witness_TxDoneResult :
    (writeSt .writingMessage false).fatal = false ∧ (writeSt .writingMessage false).phase = .writingMessage ∧
    (writeSt .writingAck false).phase = .writingAck ∧ (writeSt .writingAck false).rtxp = false ∧
    (writeSt .writingAck true).phase = .writingAck ∧ (writeSt .writingAck true).rtxp = true ∧
    (waitSt 0).fatal = false ∧ (waitSt 0).phase = .awaitingAck ∧ idleSt.phase = .readingFrame := by decide

theorem witness_TimeoutResult :
    (waitSt 2).fatal = false ∧ (waitSt 2).phase = .awaitingAck ∧
    (waitSt 2).retry.toNat < (waitSt 2).cfg.maxRetry.toNat ∧ idleSt.phase = .readingFrame ∧
    (writeSt .writingMessage false).phase = .writingMessage ∧
    (writeSt .writingAck true).phase = .writingAck := by decide

theorem witness_TransportErrorIsFatal : (writeSt .writingMessage false).fatal = false := by decide

theorem witness_OnlyResetWhileFatal : fatalSt.fatal = true := by decide

theorem witness_InvKeptByStep :
    rxSt.Inv ∧ after (step rxSt) (fun t => (t.phase, t.view)) =
    some (.writingAck, some { serial := 1, off := 4, len := 0 }) :=
  ⟨witness_inv_body, by decide⟩

theorem witness_FatalIsSticky :
    fatalSt.fatal = true ∧ (∀ cfg, Instr.anyEventWhileFatal .timeout ≠ .reset cfg) ∧
    exec (.anyEventWhileFatal .timeout) fatalSt = .next fatalSt.begin :=
  ⟨by decide, fun _ h => (nomatch h), rfl⟩

/-- AwaitingAck at the retry limit with a deadline that has elapsed. -/
def lastSt : State := { waitSt 3 with ports := { timeout := 1 } }

theorem witness_FatalExactlyByFatalError :
    lastSt.fatal = false ∧ lastSt.fetch ≠ none ∧
    after (step lastSt) (fun t => (t.fatal, t.report.err)) = some (true, .retryLimit) := by decide

theorem witness_AccessMatrix :
    after (exec (.rxByte 0x49) midSt) State.pst = some .body ∧
    after (exec (.rxByte 0x05) lenSt) State.pst = some .body ∧
    after (exec (.rxByte 0x30) bodySt) State.csum = some 0x30 ∧
    after (exec (.send [0x00]) idleSt) State.retry = some 0 ∧
    after (exec .timeoutRetryLimit (waitSt 3)) State.fatal = some true ∧
    after (exec .xportErr idleSt) State.fatal = some true := by decide

theorem witness_WritingPhasesTakeNoByte :
    heldSt.phase.isWriting = true ∧ heldSt.ports.reset = [] ∧
    after (step heldSt) State.phase = some .readingFrame := by decide

theorem witness_TransmitsOnlyAckOrDataFrames :
    (writeSt .writingMessage false).Inv ∧ (writeSt .writingMessage false).txValid = true :=
  ⟨witness_inv_writing, by decide⟩

theorem witness_NeedsWriteMarksEntry :
    rxSt.fetch ≠ none ∧
    after (step rxSt) (fun t => (t.report.needsWrite, t.phase)) = some (.ack, .writingAck) := by decide

theorem witness_StepAlwaysAnswersNext : (writeSt .writingMessage false).Inv := witness_inv_writing

theorem witness_RetransmissionCount :
    idleSt.sendReady = true ∧ 1 ≤ ([0x00] : List Byte).length ∧ ([0x00] : List Byte).length ≤ 254 ∧
    0 ≤ idleSt.cfg.maxRetry.toNat ∧ 3 ≤ idleSt.cfg.maxRetry.toNat := by decide

theorem witness_ViolationRecovery :
    (waitBodySt 2).fatal = false ∧ (waitBodySt 2).phase = .awaitingAck ∧
    (waitBodySt 2).retry.toNat < (waitBodySt 2).cfg.maxRetry.toNat ∧ (waitBodySt 2).pst = .body ∧
    (waitBodySt 2).cnt.toNat + 1 = (waitBodySt 2).len.toNat ∧ (0x30 : Byte) = (waitBodySt 2).csum ∧
    Memory.view (waitBodySt 2).rxbuf 0 (waitBodySt 2).cnt.toNat = some [0x00, 0x49, 0x84, 0x07] := by decide

theorem witness_StatusOutputs :
    (writeSt .writingAck false).fatal = false ∧ (writeSt .writingAck false).phase = .writingAck ∧
    (writeSt .writingMessage false).fatal = false ∧
    (writeSt .writingMessage false).phase = .writingMessage := by decide

theorem witness_RowsStopWhereNotSelected_parser :
    Instr.sof.format = .ft ∧ lenSt.rxReady = true ∧
    decode (lenSt.ctx (formatOf lenSt.pst)) Instr.sof.encode = .ok (.lenNonzero 1) ∧
    bodySt.rxReady = true ∧
    decode (bodySt.ctx (formatOf bodySt.pst)) (Instr.checksumOk 0x31).encode = .ok (.checksumBad 0x31) := by
  decide

theorem witness_RowsStopWhereNotSelected_inner :
    isDecoderRow .request = true ∧ idleSt.report.frameKind ≠ .data ∧
    Instr.ackInAwaitingAck.format = .hs ∧
    decode ((hsSt .ack .readingFrame 0).ctx .hs)
      (.bytes [FrameKind.byte (hsSt .ack .readingFrame 0).report.frameKind]) = .ok .ackInReadingFrame := by
  decide

theorem witness_RowsStopWhereNotSelected_event :
    Instr.xportErr.format = .ev ∧
    decode (fatalSt.ctx .ev) Instr.xportErr.encode = .ok (.anyEventWhileFatal .xportErr) ∧
    State.rxReady { bodySt with cnt := 5 } = true ∧ State.pst { bodySt with cnt := 5 } = .body ∧
    bodySt.len.toNat ≤ (5 : Byte).toNat := by decide

theorem witness_RowsStopWhereNotSelected_level :
    isDecoderRow .response = true ∧ infoSt.report.frameKind = .data ∧
    infoSt.message = .ok [0x00, 0x49, 0x84, 0x07, 0x01, 0x02] ∧
    Instr.response ∉ levelRows infoSt.rom [0x00, 0x49, 0x84, 0x07, 0x01, 0x02] ∧
    (msgSt 3 [(0, 0x00)]).report.frameKind = .data ∧
    (msgSt 3 [(0, 0x00)]).message = .error (.undefinedCell 0) := by decide

theorem witness_RowsStopWhereNotSelected_encoder :
    lenSt.sendReady = false ∧ ([] : List Byte).length = 0 ∧ 255 ≤ (List.replicate 255 (0 : Byte)).length ∧
    fatalSt.fatal = true ∧ idleSt.phase ≠ .writingAck :=
  ⟨by decide, rfl, by rw [List.length_replicate], by decide, by decide⟩

theorem witness_RowsStopWhereNotSelected_checksum :
    State.rxReady { bodySt with rxbuf := [] } = true ∧ bodySt.pst = .body ∧
    bodySt.cnt.toNat + 1 = bodySt.len.toNat ∧ (0x30 : Byte) = bodySt.csum ∧
    Memory.view [] 0 bodySt.cnt.toNat = none := by decide

theorem witness_ChecksumDetects :
    2 < ([0x00, 0x49, 0x84] : List Byte).length ∧ (0 : Nat) ≠ 2 ∧
    ([0x00, 0x49, 0x84] : List Byte)[0]? = some 0x00 ∧ ([0x00, 0x49, 0x84] : List Byte)[2]? = some 0x84 := by
  decide

theorem witness_ChecksumDetects_perm : ([0x00, 0x49] : List Byte).Perm [0x49, 0x00] := by decide

theorem witness_EncodedFrameRoundTrip :
    1 ≤ ([0x00] : List Byte).length ∧ ([0x00] : List Byte).length ≤ 254 ∧ idleSt.rxReady = true ∧
    idleSt.pst = .idle ∧ idleSt.phase = .readingFrame := by decide

theorem witness_CorruptedFrameRejected :
    1 ≤ ([0x00] : List Byte).length ∧ ([0x00] : List Byte).length ≤ 254 ∧ (waitSt 0).rxReady = true ∧
    (waitSt 0).pst = .idle ∧ 2 ≤ 3 ∧ 3 < ([0x00] : List Byte).length + 3 ∧
    (encodeFrame [0x00])[3]? ≠ some 0x00 ∧ (encodeFrame [0x00])[2]? ≠ some 0x01 := by decide

theorem witness_ByteAccounting :
    bodySt.rxReady = true ∧ after (exec (.rxByte 0x30) bodySt) (fun t => (t.position, t.report.consumed)) =
      some (0, 7) := by decide

theorem witness_ViewLife :
    bodySt.rxReady = true ∧
    after (exec (.rxByte 0x30) bodySt) State.view = some (some { serial := 1, off := 4, len := 0 }) ∧
    after (exec (.rxByte 0x31) bodySt) State.view = some none ∧
    (Instr.send [0x00]).format = .ev ∧ after (exec (.send [0x00]) viewSt) State.view = some viewSt.view := by
  decide

theorem witness_ViewLife_unknown :
    againSt.rxReady = true ∧
    after (exec (.rxByte 0x54) againSt) State.view = some (some { serial := 2, off := 0, len := 2 }) ∧
    after (exec (.rxByte 0x54) againSt) (fun t => t.report.remLen) = some 2 := by decide

theorem witness_ViewLife_inv :
    viewSt.Inv ∧ viewSt.view = some { serial := 1, off := 0, len := 2 } ∧ viewSt.rxReady = true ∧
    after (exec (.rxByte 0x01) viewSt) State.view = some none :=
  ⟨witness_inv_view, by decide, by decide, by decide⟩

theorem witness_ViewLife_expired :
    againSt.view ≠ some { serial := 1, off := 0, len := 2 } ∧ 1 ≤ againSt.frames ∧
    after (step { againSt with ports := { rx := [0x54] } }) State.frames = some 2 := by decide

end Sys2Proof.Tests
end

section
/-! PROOFS. The state (`10_state.md`): what the status outputs are as functions of the registers (R38), and
the reset state (R41). -/

namespace Sys2Proof

theorem Phase.isWriting_iff {p : Phase} :
    p.isWriting = true ↔ p = .writingMessage ∨ p = .writingAck := by
  cases p <;> simp [Phase.isWriting]

end Sys2Proof

namespace Sys2Proof.Machine

@[simp] theorem Memory.read_nil (a : Nat) : Memory.read [] a = none := rfl

/-! ### Status outputs -/

@[simp] theorem State.phaseOut_eq (s : State) : s.phaseOut = s.phase.code := rfl

@[simp] theorem State.fcauseOut_eq (s : State) : s.fcauseOut = s.fcause.code := rfl

theorem State.txValid_iff {s : State} :
    s.txValid = true ↔ s.fatal = false ∧ (s.phase = .writingMessage ∨ s.phase = .writingAck) := by
  simp [State.txValid, Phase.isWriting_iff]

theorem State.awaiting_iff {s : State} :
    s.awaiting = true ↔ s.fatal = false ∧ s.phase = .awaitingAck := by
  simp [State.awaiting]

theorem State.txBytes_writingAck {s : State} (hf : s.fatal = false) (hp : s.phase = .writingAck) :
    s.txBytes = some (.ok [0x06]) := by
  have hv : s.txValid = true := State.txValid_iff.mpr ⟨hf, .inr hp⟩
  simp [State.txBytes, hv, hp]

theorem State.txBytes_writingMessage {s : State} (hf : s.fatal = false)
    (hp : s.phase = .writingMessage) :
    s.txBytes = some (viewOrFault s.outbuf 0 s.outlen.toNat) := by
  have hv : s.txValid = true := State.txValid_iff.mpr ⟨hf, .inl hp⟩
  simp [State.txBytes, hv, hp]

/-- Settles O53: each output by the law that says what it is, each code by the cases of its enumeration. -/
theorem statusOutputs : Obligations.StatusOutputs := by
  refine ⟨fun s => ⟨?phase, ?fcause, State.rxReady_iff, State.sendReady_iff, State.txValid_iff,
    State.awaiting_iff, State.txBytes_writingAck, State.txBytes_writingMessage, ?pst⟩,
    fun r => ⟨?rpt, ?frameKind, ?err, ?msgKind, ?needsWrite⟩⟩
  case phase => rw [State.phaseOut_eq]; cases s.phase <;> rfl
  case fcause => rw [State.fcauseOut_eq]; cases s.fcause <;> rfl
  case pst => cases s.pst <;> rfl
  case rpt => cases r.rpt <;> rfl
  case frameKind => cases r.frameKind <;> rfl
  case err => cases r.err <;> rfl
  case msgKind => cases r.msgKind <;> rfl
  case needsWrite => cases r.needsWrite <;> rfl

/-! ### RESET -/

theorem exec_reset (cfg : Cfg) (s : State) : exec (.reset cfg) s = .next (s.reopen cfg) := rfl

@[simp] theorem State.reopen_rxReady (s : State) (cfg : Cfg) : (s.reopen cfg).rxReady = true :=
  State.rxReady_iff.mpr ⟨State.reopen_fatal s cfg, .inl (State.reopen_phase s cfg)⟩

@[simp] theorem State.reopen_sendReady (s : State) (cfg : Cfg) : (s.reopen cfg).sendReady = true :=
  State.sendReady_iff.mpr
    ⟨State.reopen_fatal s cfg, State.reopen_phase s cfg, State.reopen_pst s cfg⟩

@[simp] theorem State.reopen_txValid (s : State) (cfg : Cfg) : (s.reopen cfg).txValid = false := by
  simp [← Bool.not_eq_true, State.txValid_iff]

@[simp] theorem State.reopen_awaiting (s : State) (cfg : Cfg) : (s.reopen cfg).awaiting = false := by
  simp [← Bool.not_eq_true, State.awaiting_iff]

/-- Settles O34: RESET answers `State.reopen`, whose fields and outputs its laws give. -/
theorem resetResult : Obligations.ResetResult := by
  intro s cfg
  refine ⟨s.reopen cfg, exec_reset cfg s, ?_⟩
  simp

end Sys2Proof.Machine
end

section
/-! PROOFS. The encoding: the frame-type tag map and the baseline dispatch tables (`30_encoding.md` R83, R87),
and the two byte strings the block transmits (R91). -/

namespace Sys2Proof

/-! ### The tag maps -/

theorem decodeFt_unknown {b : Byte} (h1 : b ≠ 0x01) (h6 : b ≠ 0x06) (h15 : b ≠ 0x15) (h18 : b ≠ 0x18) :
    decodeFt b = .ftUnknown b := by
  rw [decodeFt, if_neg h1, if_neg h6, if_neg h15, if_neg h18]

@[simp] theorem Rom.entry_nil {α : Type} (t : Byte) : Rom.entry ([] : List (Byte × α)) t = none := rfl

theorem Rom.entry_cons_eq_some {α : Type} {k t : Byte} {x y : α} {table : List (Byte × α)} :
    Rom.entry ((k, x) :: table) t = some y ↔ (t = k ∧ x = y) ∨ (t ≠ k ∧ Rom.entry table t = some y) := by
  by_cases h : t = k
  · simp [Rom.entry, h]
  · simp [Rom.entry, h, Ne.symm h]

theorem Rom.entry_singleton_iff {α : Type} {k t : Byte} {x : α} :
    Rom.entry [(k, x)] t = some x ↔ t = k := by
  simp [Rom.entry_cons_eq_some]

theorem Rom.baseline_l0_request {t : Byte} :
    Rom.entry Rom.baseline.l0 t = some .request ↔ t = 0x00 := by
  simp [Rom.baseline, Rom.entry_cons_eq_some]

theorem Rom.baseline_l0_response {t : Byte} :
    Rom.entry Rom.baseline.l0 t = some .response ↔ t = 0x01 := by
  have h : t = 0x01 → t ≠ 0x00 := by rintro rfl; decide
  simpa [Rom.baseline, Rom.entry_cons_eq_some] using h

/-! ### The frame the block transmits -/

theorem encodeFrame_length (m : List Byte) : (encodeFrame m).length = m.length + 3 := by
  simp [encodeFrame]

theorem legalLength_iff {m : List Byte} : legalLength m = true ↔ 1 ≤ m.length ∧ m.length ≤ 254 := by
  simp [legalLength]

/-- A length byte that counts the message and the checksum is the one the encoder writes. -/
theorem lengthByte_eq_of_toNat {m : List Byte} {l : Byte} (h : l.toNat = m.length + 1) :
    lengthByte m = l := by
  rw [lengthByte, ← h, BitVec.ofNat_toNat, BitVec.setWidth_eq]

end Sys2Proof

namespace Sys2Proof.Machine

theorem isDataFrame_iff {f : List Byte} :
    isDataFrame f = true ↔ ∃ l body, f = 0x01 :: l :: body ∧ l.toNat = body.length ∧
      body.getLast? = some (checksum l body.dropLast) := by
  match f with
  | [] => simp [isDataFrame]
  | [_] => simp [isDataFrame]
  | tag :: l :: body => simp [isDataFrame, and_assoc]

/-- A Data frame is the encoding of what stands between its length byte and its checksum. -/
theorem exists_encodeFrame_of_isDataFrame {f : List Byte} (h : isDataFrame f = true) :
    ∃ m, f = encodeFrame m := by
  obtain ⟨l, body, rfl, hlen, hlast⟩ := isDataFrame_iff.mp h
  obtain ⟨m, c, rfl⟩ : ∃ m c, body = m ++ [c] := by
    have hne : body ≠ [] := by rintro rfl; simp at hlast
    exact ⟨_, _, (List.dropLast_append_getLast hne).symm⟩
  have hl : lengthByte m = l := lengthByte_eq_of_toNat (by simpa using hlen)
  have hc : c = checksum l m := by simpa using hlast
  exact ⟨m, by rw [encodeFrame, hl, hc]⟩

/-- While a message is in flight, OUTBUF[0..OUTLEN) is the encoding of a message of legal length. -/
theorem State.Inv.outbuf_encodes {s : State} (hi : s.Inv) (hm : s.inFlight = true) :
    ∃ m, legalLength m = true ∧ viewOrFault s.outbuf 0 s.outlen.toNat = .ok (encodeFrame m) := by
  obtain ⟨hlo, hhi, f, hv, hd⟩ := hi.outFrame hm
  obtain ⟨m, rfl⟩ := exists_encodeFrame_of_isDataFrame hd
  have hn : m.length + 3 = s.outlen.toNat := by
    rw [← encodeFrame_length, Memory.view_length hv]
  exact ⟨m, legalLength_iff.mpr ⟨by omega, by omega⟩, viewOrFault_ok.mpr hv⟩

theorem State.txBytes_of_not_txValid {s : State} (h : s.txValid = false) : s.txBytes = none := by
  simp [State.txBytes, h]

theorem State.inFlight_writingMessage {s : State} (h : s.phase = .writingMessage) :
    s.inFlight = true := by
  simp [State.inFlight, h]

/-- Settles O49: WritingAck presents the byte 06, WritingMessage the frame in flight. -/
theorem transmitsOnlyAckOrDataFrames : Obligations.TransmitsOnlyAckOrDataFrames := by
  intro s hi
  refine ⟨State.txBytes_of_not_txValid, fun hv => ?_⟩
  obtain ⟨hf, hp | hp⟩ := State.txValid_iff.mp hv
  · obtain ⟨m, hm, hview⟩ := hi.outbuf_encodes (State.inFlight_writingMessage hp)
    exact .inr ⟨m, hm, by rw [State.txBytes_writingMessage hf hp, hview]⟩
  · exact .inl (State.txBytes_writingAck hf hp)

theorem decode_byte_of_idle {s : State} (h : s.pst = .idle) (b : Byte) :
    decode (s.ctx (formatOf s.pst)) (.bytes [b]) = .ok (decodeFt b) := by
  rw [h]; rfl

/-- Settles O3: in P_IDLE a byte is read by `decodeFt`, and each table is looked up entry by entry. -/
theorem tagMaps : Obligations.TagMaps := by
  refine ⟨fun s hs => ?_, fun t => ⟨Rom.baseline_l0_request, Rom.baseline_l0_response,
    Rom.entry_singleton_iff, Rom.entry_nil t, Rom.entry_singleton_iff⟩⟩
  simp only [decode_byte_of_idle hs]
  exact ⟨rfl, rfl, rfl, rfl, fun b h1 h6 h15 h18 => congrArg _ (decodeFt_unknown h1 h6 h15 h18)⟩

end Sys2Proof.Machine
end

section
/-! PROOFS. The frame parser (`40_frame_parser.md`): what each row answers where it is selected (R111 to R120),
with the handshake's part of the step that completes a frame (`43_handshake.md` R161 to R172). -/

namespace Sys2Proof

theorem isFrameTag_eq_false_iff {b : Byte} :
    isFrameTag b = false ↔ b ≠ 0x01 ∧ b ≠ 0x06 ∧ b ≠ 0x15 ∧ b ≠ 0x18 := by
  simp [isFrameTag, and_assoc]

end Sys2Proof

namespace Sys2Proof.Machine

/-! ### Counters, limits and the byte stored -/

/-- CNT does not wrap while it is below LEN. -/
theorem cnt_succ_toNat {s : State} (h : s.cnt.toNat < s.len.toNat) :
    (s.cnt + 1).toNat = s.cnt.toNat + 1 := by
  bv_omega

/-- `LEN + 2` fits the 9 bits of `report.consumed`. -/
@[simp] theorem frameBytes_toNat (len : Byte) : (frameBytes len).toNat = len.toNat + 2 := by
  unfold frameBytes
  bv_omega

theorem State.retriesLeft_iff {s : State} :
    s.retriesLeft = true ↔ s.retry.toNat < s.cfg.maxRetry.toNat := by
  simp [State.retriesLeft]

theorem State.retriesLeft_eq_false_iff {s : State} :
    s.retriesLeft = false ↔ s.cfg.maxRetry.toNat ≤ s.retry.toNat := by
  simp [State.retriesLeft]

theorem storedOnly_write (m : Memory) (i : Nat) (b : Byte) :
    storedOnly m (Memory.write m i b) i b :=
  ⟨Memory.read_write_same m i b, fun _ ha => Memory.read_write_other m i b ha⟩

theorem State.rxReady_of_readingFrame {s : State} (hf : s.fatal = false)
    (hp : s.phase = .readingFrame) : s.rxReady = true :=
  State.rxReady_iff.mpr ⟨hf, .inl hp⟩

theorem State.rxReady_of_awaitingAck {s : State} (hf : s.fatal = false)
    (hp : s.phase = .awaitingAck) : s.rxReady = true :=
  State.rxReady_iff.mpr ⟨hf, .inr hp⟩

/-! ### The handshake's part of a step -/

/-- While FATAL = 0 the handshake answers the case that its trigger selects: the converse of
`handshakeOf_dispatchFrame`. -/
theorem dispatchFrame_of_handshakeOf {u t : State} (hf : u.fatal = false) (h : HandshakeOf u t) :
    dispatchFrame u = .next t := by
  cases h with
  | ackData hp hk => simp [dispatchFrame, execDataInReadingFrame, State.takesFrame, hf, hp, hk]
  | event hp hk =>
    rcases hk with hk | hk | hk <;>
      simp [dispatchFrame, execAckInReadingFrame, execNackInReadingFrame, execCanInReadingFrame,
        State.takesFrame, hf, hp, hk]
  | success hp hk => simp [dispatchFrame, execAckInAwaitingAck, State.takesFrame, hf, hp, hk]
  | again hp hk hr =>
    rcases hk with hk | hk <;>
      simp [dispatchFrame, execNackInAwaitingAck, execCanInAwaitingAck, State.takesFrame, hf, hp, hk, hr]
  | limit hp hk hr =>
    rcases hk with hk | hk <;> simp [dispatchFrame, execRetryLimit, State.takesFrame, hf, hp, hk, hr]
  | violation hp hk hr => simp [dispatchFrame, execDataInAwaitingAck, State.takesFrame, hf, hp, hk, hr]
  | violationLimit hp hk hr =>
    simp [dispatchFrame, execDataInAwaitingAckLimit, State.takesFrame, hf, hp, hk, hr]

/-! ### The rows where they are selected -/

theorem State.receive_selected {s : State} {b : Byte} {c : Bool} {r : Result} (hr : s.rxReady = true)
    (hc : c = true) : s.receive b c r = r := by
  rw [State.receive_ready hr, hc, whenSelected_true]

theorem exec_sof {s : State} (hr : s.rxReady = true) (hp : s.pst = .idle) :
    exec .sof s = .next { s.beginRx with pst := .len } :=
  State.receive_selected hr (by simp [hp])

theorem exec_ack {s : State} (hr : s.rxReady = true) (hp : s.pst = .idle) :
    exec .ack s = dispatchFrame (s.afterControl .ack) :=
  State.receive_selected hr (by simp [hp])

theorem exec_nack {s : State} (hr : s.rxReady = true) (hp : s.pst = .idle) :
    exec .nack s = dispatchFrame (s.afterControl .nack) :=
  State.receive_selected hr (by simp [hp])

theorem exec_can {s : State} (hr : s.rxReady = true) (hp : s.pst = .idle) :
    exec .can s = dispatchFrame (s.afterControl .can) :=
  State.receive_selected hr (by simp [hp])

theorem exec_ftUnknown {s : State} {b : Byte} (hr : s.rxReady = true) (hp : s.pst = .idle)
    (hb : isFrameTag b = false) :
    exec (.ftUnknown b) s =
      .next (((s.beginRx.raise .unknownFrameType .protocolError).errTag b).consume 1) :=
  State.receive_selected hr (by simp [hp, hb])

theorem exec_lenNonzero {s : State} {b : Byte} (hr : s.rxReady = true) (hp : s.pst = .len)
    (hb : b ≠ 0) :
    exec (.lenNonzero b) s =
      .next { s.beginRx with len := b, cnt := 0, csum := 0xFF ^^^ b, pst := .body } :=
  State.receive_selected hr (by simpa [hp] using hb)

theorem exec_lenZero {s : State} (hr : s.rxReady = true) (hp : s.pst = .len) :
    exec .lenZero s =
      .next ((({ s.beginRx with len := 0, cnt := 0, csum := 0xFF, pst := .idle }).raise
        .shortMessage .protocolError).consume 2) :=
  State.receive_selected hr (by simp [hp])

theorem exec_bodyByte {s : State} {b : Byte} (hr : s.rxReady = true) (hp : s.pst = .body)
    (hc : s.cnt.toNat + 1 < s.len.toNat) :
    exec (.bodyByte b) s =
      .next { s.beginRx with
        rxbuf := Memory.write s.rxbuf s.cnt.toNat b, csum := s.csum ^^^ b, cnt := s.cnt + 1 } := by
  have hw := State.writeRx_ok (s := s.beginRx) (b := b).mpr ⟨cnt_lt_rxbufSize hc.le, rfl⟩
  calc exec (.bodyByte b) s
      = orFault (s.beginRx.writeRx s.cnt.toNat b) fun t =>
          .next { t with csum := s.csum ^^^ b, cnt := s.cnt + 1 } :=
        State.receive_selected hr (by simp [hp, State.beforeLast, hc])
    _ = _ := by rw [hw]; rfl

/-- The registers and the buffer after the last body byte, whatever the checksum says. -/
def State.afterBody (s : State) (b : Byte) : State :=
  { s.beginRx with rxbuf := Memory.write s.rxbuf s.cnt.toNat b, cnt := s.cnt + 1, pst := .idle }

theorem State.endBody_eq {s : State} (b : Byte) (hc : s.cnt.toNat + 1 = s.len.toNat) :
    s.endBody b = .ok (s.afterBody b) :=
  State.endBody_ok.mpr ⟨cnt_lt_rxbufSize hc.le, rfl⟩

/-- The checksum byte is stored behind MSG, so MSG is what the body bytes before it were. -/
theorem State.message_afterBody {s : State} {b : Byte} {msg : List Byte}
    (hc : s.cnt.toNat + 1 = s.len.toNat) (hm : Memory.view s.rxbuf 0 s.cnt.toNat = some msg) :
    (s.afterBody b).message = .ok msg := by
  have hlen : s.len ≠ 0 := by bv_omega
  refine State.message_ok.mpr ⟨hlen, ?_⟩
  calc Memory.view (Memory.write s.rxbuf s.cnt.toNat b) 0 (s.len.toNat - 1)
      = Memory.view (Memory.write s.rxbuf s.cnt.toNat b) 0 s.cnt.toNat := by
        rw [← hc, Nat.add_sub_cancel]
    _ = Memory.view s.rxbuf 0 s.cnt.toNat :=
        Memory.view_write_outside _ _ (.inr (Nat.zero_add _).le)
    _ = some msg := hm

theorem exec_checksumOk {s : State} {b : Byte} {msg : List Byte} (hr : s.rxReady = true)
    (hp : s.pst = .body) (hc : s.cnt.toNat + 1 = s.len.toNat) (hb : b = s.csum)
    (hm : Memory.view s.rxbuf 0 s.cnt.toNat = some msg) :
    exec (.checksumOk b) s = dispatchFrame (s.afterData b msg) := by
  have hmsg : ((s.afterBody b).completeFrame .data (frameBytes s.len)).message = .ok msg :=
    State.message_afterBody hc hm
  calc exec (.checksumOk b) s
      = orFault (s.endBody b) fun t =>
          (t.completeFrame .data (frameBytes s.len)).decodeStage dispatchFrame :=
        State.receive_selected hr (by simp [hp, State.atLast, hc, hb])
    _ = ((s.afterBody b).completeFrame .data (frameBytes s.len)).decodeStage dispatchFrame := by
        rw [State.endBody_eq b hc, orFault_ok]
    _ = dispatchFrame (s.afterData b msg) := by
        rw [State.decodeStage, hmsg, orFault_ok, ← decoded_afterData]; rfl

theorem exec_checksumBad {s : State} {b : Byte} (hr : s.rxReady = true) (hp : s.pst = .body)
    (hc : s.cnt.toNat + 1 = s.len.toNat) (hb : b ≠ s.csum) :
    exec (.checksumBad b) s =
      .next (((s.afterBody b).raise .invalidChecksum .protocolError).consume (frameBytes s.len)) := by
  calc exec (.checksumBad b) s
      = orFault (s.endBody b) fun t =>
          .next ((t.raise .invalidChecksum .protocolError).consume (frameBytes s.len)) :=
        State.receive_selected hr (by simp [hp, State.atLast, hc, hb])
    _ = _ := by rw [State.endBody_eq b hc, orFault_ok]

/-! ### The obligations -/

/-- Settles O20: the row hands the decoded frame to the handshake, which takes the case of its phase and of
what RETRY leaves. -/
theorem checksumOkResult : Obligations.ChecksumOkResult := by
  intro s b msg hf hp hc hb hm
  have hstored := storedOnly_write s.rxbuf s.cnt.toNat b
  have hk : (s.afterData b msg).report.frameKind = .data := dataReport_frameKind s.rom s.len msg
  have hstep : ∀ {t}, s.rxReady = true → HandshakeOf (s.afterData b msg) t →
      exec (.checksumOk b) s = .next t := fun hr h =>
    (exec_checksumOk hr hp hc hb hm).trans (dispatchFrame_of_handshakeOf hf h)
  refine ⟨fun hph => ?reading, fun hph hlt => ?violation, fun hph hle => ?limit⟩
  case reading =>
    exact ⟨_, hstep (State.rxReady_of_readingFrame hf hph) (.ackData hph hk), hstored, rfl⟩
  case violation =>
    exact ⟨_, hstep (State.rxReady_of_awaitingAck hf hph)
      (.violation hph hk (State.retriesLeft_iff.mpr hlt)), hstored, rfl⟩
  case limit =>
    exact ⟨_, hstep (State.rxReady_of_awaitingAck hf hph)
      (.violationLimit hph hk (State.retriesLeft_eq_false_iff.mpr hle)), hstored, rfl⟩

/-- Settles O15: neither row completes a frame, so the parser's writes are the whole step. -/
theorem frameStartResult : Obligations.FrameStartResult := fun _ hr =>
  ⟨fun hp => ⟨_, exec_sof hr hp, rfl⟩, fun hp _ hb => ⟨_, exec_lenNonzero hr hp hb, rfl⟩⟩

/-- Settles O16: the completed Ack is the handshake's reported event or its success. -/
theorem ackTagResult : Obligations.AckTagResult := by
  intro s hf hp
  refine ⟨fun hph => ?reading, fun hph => ?awaiting⟩
  case reading =>
    exact ⟨_, (exec_ack (State.rxReady_of_readingFrame hf hph) hp).trans
      (dispatchFrame_of_handshakeOf hf (.event hph (.inl rfl))), rfl⟩
  case awaiting =>
    exact ⟨_, (exec_ack (State.rxReady_of_awaitingAck hf hph) hp).trans
      (dispatchFrame_of_handshakeOf hf (.success hph rfl)), rfl⟩

/-- Settles O17: both rows complete their frame in the same way, and the handshake treats a Cancel as a
Nack. -/
theorem nackAndCanTagResult : Obligations.NackAndCanTagResult := by
  intro s i k hik hf hp
  have hk : (s.afterControl k).report.frameKind = .nack ∨ (s.afterControl k).report.frameKind = .can :=
    hik.imp And.right And.right
  have hstep : ∀ {t}, s.rxReady = true → HandshakeOf (s.afterControl k) t → exec i s = .next t := by
    intro t hr h
    rw [← dispatchFrame_of_handshakeOf (u := s.afterControl k) hf h]
    rcases hik with ⟨rfl, rfl⟩ | ⟨rfl, rfl⟩
    · exact exec_nack hr hp
    · exact exec_can hr hp
  refine ⟨fun hph => ?reading, fun hph hlt => ?again, fun hph hle => ?limit⟩
  case reading =>
    exact ⟨_, hstep (State.rxReady_of_readingFrame hf hph) (.event hph (.inr hk)), rfl⟩
  case again =>
    exact ⟨_, hstep (State.rxReady_of_awaitingAck hf hph)
      (.again hph hk (State.retriesLeft_iff.mpr hlt)), rfl⟩
  case limit =>
    exact ⟨_, hstep (State.rxReady_of_awaitingAck hf hph)
      (.limit hph hk (State.retriesLeft_eq_false_iff.mpr hle)), rfl⟩

/-- Settles O18: both rows raise their error with no frame completed, so the handshake does not act. -/
theorem headerErrorResult : Obligations.HeaderErrorResult := fun _ _ hr =>
  ⟨fun hp h1 h6 h15 h18 =>
    ⟨_, exec_ftUnknown hr hp (isFrameTag_eq_false_iff.mpr ⟨h1, h6, h15, h18⟩), rfl⟩,
   fun hp => ⟨_, exec_lenZero hr hp, rfl⟩⟩

/-- Settles O19: the row stores one cell, and CNT stays below LEN, so it counts without wrapping. -/
theorem bodyByteResult : Obligations.BodyByteResult := by
  intro s b hr hp hc
  exact ⟨_, exec_bodyByte hr hp (Nat.add_lt_of_lt_sub hc), storedOnly_write _ _ _,
    cnt_succ_toNat (by omega), rfl⟩

/-- Settles O21: the body ends as with a good checksum, and `LEN + 2` bytes are reported. -/
theorem checksumBadResult : Obligations.ChecksumBadResult := by
  intro s b hr hp hc hb
  exact ⟨_, exec_checksumBad hr hp hc hb, storedOnly_write _ _ _, frameBytes_toNat s.len, rfl⟩

end Sys2Proof.Machine
end

section
/-! PROOFS. The checksum function (`41_checksum.md` R130, R131). -/

namespace Sys2Proof

/-- The model's own recursion is the library's left fold, so the laws of `List.foldl` apply to it. -/
theorem foldXor_eq_foldl (init : Byte) (bs : List Byte) :
    foldXor init bs = bs.foldl (fun a b => a ^^^ b) init := by
  induction bs generalizing init with
  | nil => rfl
  | cons b bs ih => exact ih (init ^^^ b)

theorem checksum_eq_foldl (l : Byte) (bs : List Byte) :
    checksum l bs = bs.foldl (fun a b => a ^^^ b) (0xFF ^^^ l) :=
  foldXor_eq_foldl _ bs

theorem verifyChecksum_iff {l e : Byte} {bs : List Byte} :
    verifyChecksum l bs e = true ↔ checksum l bs = e :=
  beq_iff_eq

/-- Settles O55: the fold by induction on the bytes; a computed checksum verifies as it equals itself. -/
theorem checksumIsXorFold : Obligations.ChecksumIsXorFold := fun l _ bs =>
  ⟨checksum_eq_foldl l bs, verifyChecksum_iff, verifyChecksum_iff.mpr rfl⟩

end Sys2Proof
end

section
/-! PROOFS. The message decoder (`42_message_decoder.md`): which level MSG reaches, where each level goes on
or stops, and what each row answers where it is selected (R141 to R150). -/

namespace Sys2Proof

/-- No sub-type of a Response can be recognised, whatever `RSP_TABLE` holds (R147). -/
@[simp] theorem Rom.entry_rsp (table : List (Byte × RspKind)) (r : Byte) : Rom.entry table r = none :=
  Option.eq_none_iff_forall_not_mem.mpr fun k => nomatch k

theorem Rom.baseline_req_appUpdate {f : Byte} :
    Rom.entry Rom.baseline.req f = some .applicationUpdate ↔ f = 0x49 :=
  Rom.entry_singleton_iff

theorem Rom.baseline_au_infoReceived {t : Byte} :
    Rom.entry Rom.baseline.au t = some .infoReceived ↔ t = 0x84 :=
  Rom.entry_singleton_iff

end Sys2Proof

namespace Sys2Proof.Machine

/-! ### Which level MSG reaches -/

@[simp] theorem reachesRequest_cons_iff {rom : Rom} {t u : Byte} {rest : List Byte} :
    reachesRequest rom (t :: u :: rest) = true ↔ Rom.entry rom.l0 t = some .request := by
  simp [reachesRequest]

@[simp] theorem reachesResponse_cons_iff {rom : Rom} {t u : Byte} {rest : List Byte} :
    reachesResponse rom (t :: u :: rest) = true ↔ Rom.entry rom.l0 t = some .response := by
  simp [reachesResponse]

@[simp] theorem reachesAppUpdate_cons_iff {rom : Rom} {t u : Byte} {rest : List Byte} :
    reachesAppUpdate rom (t :: u :: rest) = true ↔
      Rom.entry rom.l0 t = some .request ∧ Rom.entry rom.req u = some .applicationUpdate := by
  simp [reachesAppUpdate]

@[simp] theorem reachesInfo_cons_iff {rom : Rom} {t u v : Byte} {rest : List Byte} :
    reachesInfo rom (t :: u :: v :: rest) = true ↔
      (Rom.entry rom.l0 t = some .request ∧ Rom.entry rom.req u = some .applicationUpdate) ∧
        Rom.entry rom.au v = some .infoReceived := by
  simp [reachesInfo]

/-! ### Where a level goes on or stops -/

section
variable {rom : Rom} {msg : List Byte} {off : Nat} {t : Byte}

theorem decodeRequest_of_appUpdate (ht : msg[off]? = some t)
    (he : Rom.entry rom.req t = some .applicationUpdate) :
    decodeRequest rom msg off = decodeAppUpdate rom msg (off + 1) := by
  simp [decodeRequest, ht, he]

theorem decodeRequest_of_unknown (ht : msg[off]? = some t) (he : Rom.entry rom.req t = none) :
    decodeRequest rom msg off = .unknownType off (msg.length - off) t := by
  simp [decodeRequest, ht, he]

theorem decodeAppUpdate_of_infoReceived (ht : msg[off]? = some t)
    (he : Rom.entry rom.au t = some .infoReceived) :
    decodeAppUpdate rom msg off = decodeInfoReceived msg (off + 1) := by
  simp [decodeAppUpdate, ht, he]

theorem decodeAppUpdate_of_unknown (ht : msg[off]? = some t) (he : Rom.entry rom.au t = none) :
    decodeAppUpdate rom msg off = .unknownType off (msg.length - off) t := by
  simp [decodeAppUpdate, ht, he]

theorem decodeResponse_of_tag (ht : msg[off]? = some t) :
    decodeResponse rom msg off = .unknownType off (msg.length - off) t := by
  simp [decodeResponse, ht]

theorem decodeInfoReceived_of_id (ht : msg[off]? = some t) :
    decodeInfoReceived msg off = .message .infoReceived t (off + 1) (msg.length - off - 1) := by
  simp [decodeInfoReceived, ht]

end

/-! ### Where a level finds no byte -/

section
variable {rom : Rom} {msg : List Byte} {off : Nat}

theorem decodeInfoReceived_eq_shortMessage_iff :
    decodeInfoReceived msg off = .shortMessage ↔ msg.length ≤ off := by
  cases ht : msg[off]? with
  | none => simp [decodeInfoReceived, List.getElem?_eq_none_iff.mp ht]
  | some t =>
    have hlt : off < msg.length := (List.getElem?_eq_some_iff.mp ht).1
    simpa [decodeInfoReceived_of_id ht] using hlt

theorem decodeAppUpdate_eq_shortMessage_iff :
    decodeAppUpdate rom msg off = .shortMessage ↔ msg.length ≤ off ∨
      msg[off]?.bind (Rom.entry rom.au) = some .infoReceived ∧ msg.length ≤ off + 1 := by
  cases ht : msg[off]? with
  | none => simp [decodeAppUpdate, List.getElem?_eq_none_iff.mp ht]
  | some t =>
    have hlt : off < msg.length := (List.getElem?_eq_some_iff.mp ht).1
    cases he : Rom.entry rom.au t with
    | none => simpa [decodeAppUpdate_of_unknown ht he, he] using hlt
    | some k =>
      cases k
      simp [decodeAppUpdate_of_infoReceived ht he, decodeInfoReceived_eq_shortMessage_iff, he,
        hlt.not_ge]

theorem decodeRequest_eq_shortMessage_iff :
    decodeRequest rom msg off = .shortMessage ↔ msg.length ≤ off ∨
      msg[off]?.bind (Rom.entry rom.req) = some .applicationUpdate ∧
        decodeAppUpdate rom msg (off + 1) = .shortMessage := by
  cases ht : msg[off]? with
  | none => simp [decodeRequest, List.getElem?_eq_none_iff.mp ht]
  | some t =>
    have hlt : off < msg.length := (List.getElem?_eq_some_iff.mp ht).1
    cases he : Rom.entry rom.req t with
    | none => simpa [decodeRequest_of_unknown ht he, he] using hlt
    | some k => cases k; simp [decodeRequest_of_appUpdate ht he, he, hlt.not_ge]

end

section
variable {rom : Rom} {t u : Byte} {rest : List Byte}

theorem decodeMessage_of_request (he : Rom.entry rom.l0 t = some .request) :
    decodeMessage rom (t :: u :: rest) = decodeRequest rom (t :: u :: rest) 1 := by
  simp [decodeMessage, he]

theorem decodeMessage_of_response (he : Rom.entry rom.l0 t = some .response) :
    decodeMessage rom (t :: u :: rest) = .unknownType 1 (rest.length + 1) u := by
  simp [decodeMessage, he, decodeResponse_of_tag]

theorem decodeMessage_of_unknown (he : Rom.entry rom.l0 t = none) :
    decodeMessage rom (t :: u :: rest) = .unknownType 0 (rest.length + 2) t := by
  simp [decodeMessage, he]

end

/-- The cases (a), (c) and (d) of R150, for every contents of the tables; case (b) cannot occur, since a
message of two bytes has a sub-type. -/
theorem decodeMessage_eq_shortMessage_iff {rom : Rom} {msg : List Byte} :
    decodeMessage rom msg = .shortMessage ↔ msg.length < 2 ∨
      msg.length = 2 ∧ reachesAppUpdate rom msg = true ∨
      msg.length = 3 ∧ reachesInfo rom msg = true := by
  match msg with
  | [] => simp [decodeMessage]
  | [_] => simp [decodeMessage]
  | t :: u :: rest =>
    match he : Rom.entry rom.l0 t with
    | none => simp [decodeMessage_of_unknown he, reachesInfo, he]
    | some .response => simp [decodeMessage_of_response he, reachesInfo, he]
    | some .request =>
      rw [decodeMessage_of_request he, decodeRequest_eq_shortMessage_iff,
        decodeAppUpdate_eq_shortMessage_iff]
      match rest with
      | [] => simp [he]
      | [_] => simp [he]
      | _ :: _ :: _ => simp

theorem baseline_reachesAppUpdate_of_two {msg : List Byte} :
    msg.length = 2 ∧ reachesAppUpdate Rom.baseline msg = true ↔ msg = [0x00, 0x49] := by
  constructor
  · rintro ⟨hlen, hc⟩
    obtain ⟨t, u, rfl⟩ := List.length_eq_two.mp hlen
    simpa [Rom.baseline_l0_request, Rom.baseline_req_appUpdate] using hc
  · rintro rfl
    decide

theorem baseline_reachesInfo_of_three {msg : List Byte} :
    msg.length = 3 ∧ reachesInfo Rom.baseline msg = true ↔ msg = [0x00, 0x49, 0x84] := by
  constructor
  · rintro ⟨hlen, hc⟩
    obtain ⟨t, u, v, rfl⟩ := List.length_eq_three.mp hlen
    simpa [Rom.baseline_l0_request, Rom.baseline_req_appUpdate, Rom.baseline_au_infoReceived,
      and_assoc] using hc
  · rintro rfl
    decide

/-! ### The rows where they are selected -/

/-- A row of the decoder that is selected on MSG has its effect on MSG. -/
theorem State.onMessage_selected {s : State} {msg : List Byte} {c : List Byte → Bool}
    {r : List Byte → Result} (hk : s.report.frameKind = .data) (hm : s.message = .ok msg)
    (hc : c msg = true) : s.onMessage (fun m => whenSelected (c m) (r m)) = r msg := by
  simp [State.onMessage, hk, hm, hc]

section
variable {s : State} {t u v : Byte} {msg rest : List Byte}

theorem exec_request (hk : s.report.frameKind = .data) (hm : s.message = .ok msg)
    (hc : reachesRequest s.rom msg = true) :
    exec .request s = .next (s.reportResult (decodeRequest s.rom msg 1)) :=
  State.onMessage_selected hk hm hc

theorem exec_response (hk : s.report.frameKind = .data) (hm : s.message = .ok msg)
    (hc : reachesResponse s.rom msg = true) :
    exec .response s = .next (s.reportResult (decodeResponse s.rom msg 1)) :=
  State.onMessage_selected hk hm hc

theorem exec_applicationUpdate (hk : s.report.frameKind = .data) (hm : s.message = .ok msg)
    (hc : reachesAppUpdate s.rom msg = true) :
    exec .applicationUpdate s = .next (s.reportResult (decodeAppUpdate s.rom msg 2)) :=
  State.onMessage_selected hk hm hc

theorem exec_infoReceived (hk : s.report.frameKind = .data) (hm : s.message = .ok msg)
    (hc : reachesInfo s.rom msg = true) :
    exec .infoReceived s = .next (s.reportResult (decodeInfoReceived msg 3)) :=
  State.onMessage_selected hk hm hc

theorem exec_infoReceivedOperands {id : Byte} (hk : s.report.frameKind = .data)
    (hm : s.message = .ok (t :: u :: v :: id :: rest))
    (hc : reachesInfo s.rom (t :: u :: v :: id :: rest) = true) :
    exec (.infoReceivedOperands id rest) s =
      .next (s.reportResult (.message .infoReceived id 4 rest.length)) :=
  State.onMessage_selected hk hm (by simpa using hc)

theorem exec_mtUnknown (hk : s.report.frameKind = .data) (hm : s.message = .ok (t :: u :: rest))
    (he : Rom.entry s.rom.l0 t = none) :
    exec (.mtUnknown t) s = .next (s.reportResult (.unknownType 0 (rest.length + 2) t)) :=
  State.onMessage_selected hk hm (by simp [he])

theorem exec_rqUnknown (hk : s.report.frameKind = .data) (hm : s.message = .ok (t :: u :: rest))
    (hc : reachesRequest s.rom (t :: u :: rest) = true) (he : Rom.entry s.rom.req u = none) :
    exec (.rqUnknown u) s = .next (s.reportResult (.unknownType 1 (rest.length + 1) u)) :=
  State.onMessage_selected hk hm (by simp [hc, he])

theorem exec_rsUnknown (hk : s.report.frameKind = .data) (hm : s.message = .ok (t :: u :: rest))
    (hc : reachesResponse s.rom (t :: u :: rest) = true) :
    exec (.rsUnknown u) s = .next (s.reportResult (.unknownType 1 (rest.length + 1) u)) :=
  State.onMessage_selected hk hm (by simp [hc])

theorem exec_auUnknown (hk : s.report.frameKind = .data) (hm : s.message = .ok (t :: u :: v :: rest))
    (hc : reachesAppUpdate s.rom (t :: u :: v :: rest) = true) (he : Rom.entry s.rom.au v = none) :
    exec (.auUnknown v) s = .next (s.reportResult (.unknownType 2 (rest.length + 1) v)) :=
  State.onMessage_selected hk hm (by simp [hc, he])

theorem exec_shortMessage (hk : s.report.frameKind = .data) (hm : s.message = .ok msg)
    (hc : decodeMessage s.rom msg = .shortMessage) :
    exec .shortMessage s = .next (s.reportResult .shortMessage) :=
  State.onMessage_selected hk hm (by simp [hc])

end

/-! ### The obligations -/

/-- Settles O26: the cases of R150 hold for all tables, and the baseline's leave one message in each of
(c) and (d). -/
theorem shortMessageExactly : Obligations.ShortMessageExactly := by
  intro s msg hk hrom hm
  have hshort : decodeMessage s.rom msg = .shortMessage ↔
      msg.length < 2 ∨ msg = [0x00, 0x49] ∨ msg = [0x00, 0x49, 0x84] := by
    rw [hrom, decodeMessage_eq_shortMessage_iff, baseline_reachesAppUpdate_of_two,
      baseline_reachesInfo_of_three]
  exact ⟨hshort, fun h => exec_shortMessage hk hm (hshort.mpr h)⟩

/-- Settles O23: each row of the chain hands the message to the next level at the next offset, down to the
leaf. -/
theorem infoReceivedResult : Obligations.InfoReceivedResult := by
  intro s id rest hk hrom hm
  have hl0 : Rom.entry s.rom.l0 0x00 = some .request := by rw [hrom]; rfl
  have hreq : Rom.entry s.rom.req 0x49 = some .applicationUpdate := by rw [hrom]; rfl
  have hau : Rom.entry s.rom.au 0x84 = some .infoReceived := by rw [hrom]; rfl
  have hrequestLevel : reachesRequest s.rom (0x00 :: 0x49 :: 0x84 :: id :: rest) = true :=
    reachesRequest_cons_iff.mpr hl0
  have hupdateLevel : reachesAppUpdate s.rom (0x00 :: 0x49 :: 0x84 :: id :: rest) = true :=
    reachesAppUpdate_cons_iff.mpr ⟨hl0, hreq⟩
  have hinfoLevel : reachesInfo s.rom (0x00 :: 0x49 :: 0x84 :: id :: rest) = true :=
    reachesInfo_cons_iff.mpr ⟨⟨hl0, hreq⟩, hau⟩
  have hinfo : exec .infoReceived s = exec (.infoReceivedOperands id rest) s := by
    rw [exec_infoReceived hk hm hinfoLevel, exec_infoReceivedOperands hk hm hinfoLevel,
      decodeInfoReceived_of_id rfl]
    rfl
  have hupdate : exec .applicationUpdate s = exec .infoReceived s := by
    rw [exec_applicationUpdate hk hm hupdateLevel, exec_infoReceived hk hm hinfoLevel,
      decodeAppUpdate_of_infoReceived rfl hau]
  have hrequest : exec .request s = exec .applicationUpdate s := by
    rw [exec_request hk hm hrequestLevel, exec_applicationUpdate hk hm hupdateLevel,
      decodeRequest_of_appUpdate rfl hreq]
  exact ⟨exec_infoReceivedOperands hk hm hinfoLevel, hinfo, hupdate.trans hinfo,
    hrequest.trans (hupdate.trans hinfo)⟩

/-- Settles O24: each row is selected at its own level and reports from its own offset. -/
theorem unknownTypeResult : Obligations.UnknownTypeResult := fun _ _ _ _ _ hk =>
  ⟨fun ht hm => exec_mtUnknown hk hm ht,
   fun ht hu hm => exec_rqUnknown hk hm (reachesRequest_cons_iff.mpr ht) hu,
   fun ht hu hv hm => exec_auUnknown hk hm (reachesAppUpdate_cons_iff.mpr ⟨ht, hu⟩) hv⟩

/-- Settles O25: `RSP_TABLE` can recognise nothing, so the level Response and its catch-all row agree. -/
theorem responseAlwaysUnknown : Obligations.ResponseAlwaysUnknown := by
  refine ⟨⟨Rom.baseline_l0_response.mpr rfl, Rom.entry_rsp _⟩, fun s t r rest hk ht hm => ?_⟩
  have hc : reachesResponse s.rom (t :: r :: rest) = true := reachesResponse_cons_iff.mpr ht
  refine ⟨exec_rsUnknown hk hm hc, ?_⟩
  rw [exec_response hk hm hc, decodeResponse_of_tag rfl]
  rfl

end Sys2Proof.Machine
end

section
/-! PROOFS. The handshake controller (`43_handshake.md`): what each of its rows answers where it is selected,
on a completed frame (R161 to R172) and on the events TX_DONE and TIMEOUT (R167 to R169, R173 to R176). -/

namespace Sys2Proof

theorem Phase.ne_awaitingAck_iff {p : Phase} :
    p ≠ .awaitingAck ↔ p = .readingFrame ∨ p = .writingMessage ∨ p = .writingAck := by
  cases p <;> simp

end Sys2Proof

namespace Sys2Proof.Machine

/-! ### Selection and readiness -/

theorem whenSelected_of {c : Bool} {r : Result} (hc : c = true) : whenSelected c r = r := by
  rw [hc, whenSelected_true]

theorem State.not_retriesLeft_iff {s : State} :
    (!s.retriesLeft) = true ↔ s.cfg.maxRetry.toNat ≤ s.retry.toNat := by
  rw [Bool.not_eq_true', State.retriesLeft_eq_false_iff]

/-- A completed frame with retries left selects its row of AwaitingAck. -/
theorem State.takesFrame_and_retriesLeft {s : State} {k : FrameKind} (hf : s.fatal = false)
    (hp : s.phase = .awaitingAck) (hk : s.report.frameKind = k)
    (hlt : s.retry.toNat < s.cfg.maxRetry.toNat) :
    (s.takesFrame k .awaitingAck && s.retriesLeft) = true :=
  Bool.and_eq_true_iff.mpr ⟨State.takesFrame_iff.mpr ⟨hf, hp, hk⟩, State.retriesLeft_iff.mpr hlt⟩

theorem State.rxReady_of_fatal {s : State} (hf : s.fatal = true) : s.rxReady = false := by
  simp [State.rxReady, hf]

theorem State.sendReady_of_fatal {s : State} (hf : s.fatal = true) : s.sendReady = false := by
  simp [State.sendReady, hf]

theorem State.txValid_of_fatal {s : State} (hf : s.fatal = true) : s.txValid = false := by
  simp [State.txValid, hf]

@[simp] theorem State.exceedLimit_rxReady (s : State) : s.exceedLimit.rxReady = false :=
  State.rxReady_of_fatal (State.exceedLimit_fatal s)

@[simp] theorem State.exceedLimit_sendReady (s : State) : s.exceedLimit.sendReady = false :=
  State.sendReady_of_fatal (State.exceedLimit_fatal s)

@[simp] theorem State.exceedLimit_txValid (s : State) : s.exceedLimit.txValid = false :=
  State.txValid_of_fatal (State.exceedLimit_fatal s)

/-! ### A completed frame, where its row is selected -/

section
variable {s : State}

theorem exec_dataInReadingFrame (hf : s.fatal = false) (hp : s.phase = .readingFrame)
    (hk : s.report.frameKind = .data) : exec .dataInReadingFrame s = .next s.queueAck :=
  whenSelected_of (State.takesFrame_iff.mpr ⟨hf, hp, hk⟩)

theorem exec_ackInReadingFrame (hf : s.fatal = false) (hp : s.phase = .readingFrame)
    (hk : s.report.frameKind = .ack) : exec .ackInReadingFrame s = .next (s.setRpt .frameEvent) :=
  whenSelected_of (State.takesFrame_iff.mpr ⟨hf, hp, hk⟩)

theorem exec_nackInReadingFrame (hf : s.fatal = false) (hp : s.phase = .readingFrame)
    (hk : s.report.frameKind = .nack) : exec .nackInReadingFrame s = .next (s.setRpt .frameEvent) :=
  whenSelected_of (State.takesFrame_iff.mpr ⟨hf, hp, hk⟩)

theorem exec_canInReadingFrame (hf : s.fatal = false) (hp : s.phase = .readingFrame)
    (hk : s.report.frameKind = .can) : exec .canInReadingFrame s = .next (s.setRpt .frameEvent) :=
  whenSelected_of (State.takesFrame_iff.mpr ⟨hf, hp, hk⟩)

theorem exec_ackInAwaitingAck (hf : s.fatal = false) (hp : s.phase = .awaitingAck)
    (hk : s.report.frameKind = .ack) :
    exec .ackInAwaitingAck s =
      .next (({ s with phase := .readingFrame, retry := 0, rtxp := false }).setRpt .frameEvent) :=
  whenSelected_of (State.takesFrame_iff.mpr ⟨hf, hp, hk⟩)

theorem exec_nackInAwaitingAck (hf : s.fatal = false) (hp : s.phase = .awaitingAck)
    (hk : s.report.frameKind = .nack) (hlt : s.retry.toNat < s.cfg.maxRetry.toNat) :
    exec .nackInAwaitingAck s = .next (s.countRetry.queueOut.setRpt .frameEvent) :=
  whenSelected_of (State.takesFrame_and_retriesLeft hf hp hk hlt)

theorem exec_canInAwaitingAck (hf : s.fatal = false) (hp : s.phase = .awaitingAck)
    (hk : s.report.frameKind = .can) (hlt : s.retry.toNat < s.cfg.maxRetry.toNat) :
    exec .canInAwaitingAck s = .next (s.countRetry.queueOut.setRpt .frameEvent) :=
  whenSelected_of (State.takesFrame_and_retriesLeft hf hp hk hlt)

theorem exec_retryLimit {k : FrameKind} (hkind : k = .nack ∨ k = .can) (hf : s.fatal = false)
    (hp : s.phase = .awaitingAck) (hk : s.report.frameKind = k)
    (hle : s.cfg.maxRetry.toNat ≤ s.retry.toNat) :
    exec (.retryLimit k) s = .next s.exceedLimit := by
  refine whenSelected_of (Bool.and_eq_true_iff.mpr ⟨Bool.and_eq_true_iff.mpr ⟨?kind, ?frame⟩, ?limit⟩)
  case kind => simpa using hkind
  case frame => exact State.takesFrame_iff.mpr ⟨hf, hp, hk⟩
  case limit => exact State.not_retriesLeft_iff.mpr hle

theorem exec_dataInAwaitingAck (hf : s.fatal = false) (hp : s.phase = .awaitingAck)
    (hk : s.report.frameKind = .data) (hlt : s.retry.toNat < s.cfg.maxRetry.toNat) :
    exec .dataInAwaitingAck s = .next (({ s.countRetry.violate with rtxp := true }).queueAck) :=
  whenSelected_of (State.takesFrame_and_retriesLeft hf hp hk hlt)

theorem exec_dataInAwaitingAckLimit (hf : s.fatal = false) (hp : s.phase = .awaitingAck)
    (hk : s.report.frameKind = .data) (hle : s.cfg.maxRetry.toNat ≤ s.retry.toNat) :
    exec .dataInAwaitingAckLimit s = .next s.violate.exceedLimit :=
  whenSelected_of (Bool.and_eq_true_iff.mpr
    ⟨State.takesFrame_iff.mpr ⟨hf, hp, hk⟩, State.not_retriesLeft_iff.mpr hle⟩)

/-! ### TX_DONE and TIMEOUT, where their row is selected -/

theorem exec_txDoneWritingMessage (hf : s.fatal = false) (hp : s.phase = .writingMessage) :
    exec .txDoneWritingMessage s = .next { s.begin with phase := .awaitingAck } :=
  whenSelected_of (State.inPhase_iff.mpr ⟨hf, hp⟩)

theorem exec_txDoneWritingAck (hf : s.fatal = false) (hp : s.phase = .writingAck)
    (hx : s.rtxp = false) :
    exec .txDoneWritingAck s = .next { s.begin with phase := .readingFrame } :=
  whenSelected_of (Bool.and_eq_true_iff.mpr
    ⟨State.inPhase_iff.mpr ⟨hf, hp⟩, by simp [hx]⟩)

theorem exec_txDoneWritingAckRetransmit (hf : s.fatal = false) (hp : s.phase = .writingAck)
    (hx : s.rtxp = true) :
    exec .txDoneWritingAckRetransmit s =
      .next (({ s.begin with rtxp := false }).queueOut.setRpt .needsWrite) :=
  whenSelected_of (Bool.and_eq_true_iff.mpr ⟨State.inPhase_iff.mpr ⟨hf, hp⟩, hx⟩)

theorem exec_txDoneSpurious (hr : s.rxReady = true) : exec .txDoneSpurious s = .next s.begin := by
  obtain ⟨hf, hp⟩ := State.rxReady_iff.mp hr
  exact whenSelected_of (Bool.or_eq_true_iff.mpr
    (hp.imp (State.inPhase_iff.mpr ⟨hf, ·⟩) (State.inPhase_iff.mpr ⟨hf, ·⟩)))

theorem exec_timeoutAwaitingAck (hf : s.fatal = false) (hp : s.phase = .awaitingAck)
    (hlt : s.retry.toNat < s.cfg.maxRetry.toNat) :
    exec .timeoutAwaitingAck s = .next (s.begin.countRetry.queueOut.setRpt .needsWrite) :=
  whenSelected_of (Bool.and_eq_true_iff.mpr
    ⟨State.inPhase_iff.mpr ⟨hf, hp⟩, State.retriesLeft_iff.mpr hlt⟩)

theorem exec_timeoutRetryLimit (hf : s.fatal = false) (hp : s.phase = .awaitingAck)
    (hle : s.cfg.maxRetry.toNat ≤ s.retry.toNat) :
    exec .timeoutRetryLimit s = .next s.begin.exceedLimit :=
  whenSelected_of (Bool.and_eq_true_iff.mpr
    ⟨State.inPhase_iff.mpr ⟨hf, hp⟩, State.not_retriesLeft_iff.mpr hle⟩)

theorem exec_timeoutStale (hf : s.fatal = false) (hp : s.phase ≠ .awaitingAck) :
    exec .timeoutStale s = .next s.begin :=
  whenSelected_of (Bool.and_eq_true_iff.mpr ⟨by simp [hf], bne_iff_ne.mpr hp⟩)

end

/-! ### The obligations -/

/-- Settles O29: the Data row queues the Ack, so WritingAck presents its byte; the others set `rpt` only. -/
theorem framesInReadingFrame : Obligations.FramesInReadingFrame := by
  intro s hf hp
  refine ⟨fun hk => ⟨s.queueAck, exec_dataInReadingFrame hf hp hk, rfl, ?valid, ?bytes⟩,
    exec_ackInReadingFrame hf hp, exec_nackInReadingFrame hf hp, exec_canInReadingFrame hf hp⟩
  case valid => exact State.txValid_iff.mpr ⟨hf, .inr (State.queueAck_phase s)⟩
  case bytes => exact State.txBytes_writingAck hf (State.queueAck_phase s)

/-- Settles O30: the Ack row asks nothing of RETRY, and the Nack and Cancel rows run the same operations. -/
theorem controlFramesInAwaitingAck : Obligations.ControlFramesInAwaitingAck := fun _ hf hp =>
  ⟨exec_ackInAwaitingAck hf hp, exec_nackInAwaitingAck hf hp, exec_canInAwaitingAck hf hp⟩

/-- Settles O31: all three triggers enter the fatal condition, in which no readiness output is 1. -/
theorem retryLimitIsFatal : Obligations.RetryLimitIsFatal := by
  intro s hf hp hle
  refine ⟨fun k hkind hk => ?frame, ?timeout⟩
  case frame =>
    exact ⟨s.exceedLimit, exec_retryLimit hkind hf hp hk hle, rfl, id, State.exceedLimit_rxReady s,
      State.exceedLimit_sendReady s, State.exceedLimit_txValid s⟩
  case timeout =>
    exact ⟨s.begin.exceedLimit, exec_timeoutRetryLimit hf hp hle, rfl,
      State.exceedLimit_rxReady s.begin, State.exceedLimit_sendReady s.begin,
      State.exceedLimit_txValid s.begin⟩

/-- Settles O32: what RETRY leaves selects one of the two rows, and each sets the violation first. -/
theorem dataInAwaitingAckResult : Obligations.DataInAwaitingAckResult := fun _ hf hp hk =>
  ⟨exec_dataInAwaitingAck hf hp hk, exec_dataInAwaitingAckLimit hf hp hk⟩

/-- Settles O38: PHASE and RTXP select the row, and outside the writing phases TX_DONE only resets the
report. -/
theorem txDoneResult : Obligations.TxDoneResult := by
  intro s hf
  refine ⟨fun hp => ?message, exec_txDoneWritingAck hf, exec_txDoneWritingAckRetransmit hf,
    fun hp => exec_txDoneSpurious (State.rxReady_iff.mpr ⟨hf, hp⟩)⟩
  case message =>
    exact ⟨_, exec_txDoneWritingMessage hf hp, rfl, State.awaiting_iff.mpr ⟨hf, rfl⟩,
      State.rxReady_of_awaitingAck hf rfl⟩

/-- Settles O39: with retries left the one retransmission is counted and queued; a TIMEOUT in another phase
is stale. -/
theorem timeoutResult : Obligations.TimeoutResult := fun _ hf =>
  ⟨exec_timeoutAwaitingAck hf, fun hp => exec_timeoutStale hf (Phase.ne_awaitingAck_iff.mpr hp)⟩

end Sys2Proof.Machine
end

section
/-! PROOFS. The outgoing frame in OUTBUF (`44_frame_encoder.md` R190): the frame's bytes by index, and what
writing it does to the buffer and to OUTLEN. -/

namespace Sys2Proof

theorem encodeFrame_getElem?_message {m : List Byte} {i : Nat} (hi : i < m.length) :
    (encodeFrame m)[2 + i]? = m[i]? := by
  rw [Nat.add_comm]
  simp [encodeFrame, List.getElem?_append_left hi]

theorem encodeFrame_getElem?_checksum (m : List Byte) :
    (encodeFrame m)[m.length + 2]? = some (checksum (lengthByte m) m) := by
  simp [encodeFrame]

end Sys2Proof

namespace Sys2Proof.Machine

theorem Memory.read_writeList_inside (m : Memory) (off : Nat) {bs : List Byte} {i : Nat}
    (hi : i < bs.length) : Memory.read (Memory.writeList m off bs) (off + i) = bs[i]? :=
  Memory.read_of_view (Memory.view_writeList m off bs) hi

/-- A frame written from cell 0 on stands there cell by cell. -/
theorem storedFrame_writeList (mem : Memory) (m : List Byte) :
    storedFrame mem (Memory.writeList mem 0 (encodeFrame m)) m := by
  have hcell : ∀ i, i < m.length + 3 →
      Memory.read (Memory.writeList mem 0 (encodeFrame m)) i = (encodeFrame m)[i]? := fun i hi => by
    rw [← encodeFrame_length] at hi
    simpa using Memory.read_writeList_inside mem 0 hi
  refine ⟨hcell 0 (by omega), hcell 1 (by omega), fun i hi => ?message, ?checksum, fun a ha => ?above⟩
  case message => rw [hcell _ (by omega), encodeFrame_getElem?_message hi]
  case checksum => rw [hcell _ (by omega), encodeFrame_getElem?_checksum]; rfl
  case above => exact Memory.read_writeList_outside mem _ (.inr (by rw [encodeFrame_length]; omega))

/-- OUTBUF and OUTLEN with the frame of a message. -/
def State.loadFrame (s : State) (m : List Byte) : State :=
  { s with outbuf := Memory.writeList s.outbuf 0 (encodeFrame m),
           outlen := BitVec.ofNat 9 (encodeFrame m).length }

/-- The frame of a message of legal length fits OUTBUF. -/
theorem State.writeOut_encodeFrame (s : State) {m : List Byte} (hm : legalLength m = true) :
    s.writeOut (encodeFrame m) = .ok (s.loadFrame m) := by
  obtain ⟨-, hhi⟩ := legalLength_iff.mp hm
  have hfit : (encodeFrame m).length ≤ outbufSize := by
    simp only [encodeFrame_length, outbufSize]
    omega
  exact State.writeOut_ok.mpr ⟨hfit, rfl⟩

/-- The length of a frame that fits OUTBUF fits the 9 bits of OUTLEN. -/
theorem State.loadFrame_outlen_toNat (s : State) {m : List Byte} (hm : legalLength m = true) :
    (s.loadFrame m).outlen.toNat = m.length + 3 := by
  obtain ⟨-, hhi⟩ := legalLength_iff.mp hm
  rw [State.loadFrame, encodeFrame_length, BitVec.toNat_ofNat]
  omega

theorem State.viewOrFault_loadFrame (s : State) {m : List Byte} (hm : legalLength m = true) :
    viewOrFault (s.loadFrame m).outbuf 0 (s.loadFrame m).outlen.toNat = .ok (encodeFrame m) := by
  rw [State.loadFrame_outlen_toNat s hm, ← encodeFrame_length]
  exact viewOrFault_ok.mpr (Memory.view_writeList s.outbuf 0 (encodeFrame m))

end Sys2Proof.Machine
end

section
/-! PROOFS. The engine (`45_engine.md`): which event the arbiter may take (R203 to R208), that a step leaves
what it does not take at the ports, and the events SEND (R210, R211) and XPORT_ERR (R212). -/

namespace Sys2Proof.Machine

/-! ### SEND -/

/-- An accepted send request: its frame is loaded and queued, and the retry count restarts. -/
def State.acceptSend (s : State) (m : List Byte) : State :=
  ({ s.begin.loadFrame m with retry := 0, rtxp := false }).queueOut.setRpt .needsWrite

@[simp] theorem State.acceptSend_ports (s : State) (m : List Byte) : (s.acceptSend m).ports = s.ports := rfl

theorem exec_send {s : State} {m : List Byte} (hr : s.sendReady = true) (hm : legalLength m = true) :
    exec (.send m) s = .next (s.acceptSend m) := by
  calc exec (.send m) s
      = orFault (s.begin.writeOut (encodeFrame m)) fun t =>
          .next (({ t with retry := 0, rtxp := false }).queueOut.setRpt .needsWrite) :=
        (whenSelected_of hm).trans (if_pos hr)
    _ = .next (s.acceptSend m) := by rw [State.writeOut_encodeFrame _ hm]; rfl

theorem exec_sendBadLength {s : State} {m : List Byte} (hr : s.sendReady = true)
    (hm : refusedLength m = true) :
    exec (.sendBadLength m) s = .next (s.begin.raise .sendLength .sendRejected) :=
  (whenSelected_of hm).trans (if_pos hr)

theorem refusedLength_iff {m : List Byte} :
    refusedLength m = true ↔ m.length = 0 ∨ m.length = 255 := by
  simp [refusedLength]

theorem State.rxReady_of_writingMessage {s : State} (hp : s.phase = .writingMessage) :
    s.rxReady = false := by
  simp [State.rxReady, hp]

theorem State.sendReady_of_writingMessage {s : State} (hp : s.phase = .writingMessage) :
    s.sendReady = false := by
  simp [State.sendReady, hp]

/-- Settles O35: the accepted request leaves its frame in OUTBUF, and in WritingMessage, which it enters,
that frame is presented and nothing else is taken. -/
theorem sendResult : Obligations.SendResult := by
  intro s m hr hlo hhi
  have hm : legalLength m = true := legalLength_iff.mpr ⟨hlo, hhi⟩
  obtain ⟨hf, -, -⟩ := State.sendReady_iff.mp hr
  refine ⟨s.acceptSend m, exec_send hr hm, storedFrame_writeList s.outbuf m,
    State.loadFrame_outlen_toNat s hm, rfl, State.txValid_iff.mpr ⟨hf, .inl rfl⟩, ?bytes,
    State.sendReady_of_writingMessage rfl, State.rxReady_of_writingMessage rfl⟩
  case bytes =>
    have hview : viewOrFault (s.acceptSend m).outbuf 0 (s.acceptSend m).outlen.toNat =
        .ok (encodeFrame m) := State.viewOrFault_loadFrame s hm
    rw [State.txBytes_writingMessage (s := s.acceptSend m) hf rfl, hview]

/-- Settles O36: the refused request leaves the error in a fresh report. -/
theorem sendRefused : Obligations.SendRefused := fun _ _ hr hm =>
  exec_sendBadLength hr (refusedLength_iff.mpr hm)

/-! ### XPORT_ERR -/

theorem exec_xportErr {s : State} (hf : s.fatal = false) :
    exec .xportErr s = .next (s.begin.enterFatal .transport .transport .transportError) :=
  whenSelected_of (by simp [hf])

theorem State.awaiting_of_fatal {s : State} (hf : s.fatal = true) : s.awaiting = false := by
  simp [State.awaiting, hf]

/-- Settles O40: the block enters the fatal condition, in which no readiness output is 1. -/
theorem transportErrorIsFatal : Obligations.TransportErrorIsFatal := fun _ hf =>
  ⟨_, exec_xportErr hf, rfl, State.rxReady_of_fatal rfl, State.sendReady_of_fatal rfl,
    State.txValid_of_fatal rfl, State.awaiting_of_fatal rfl⟩

/-! ### What the arbiter may take -/

section
variable {s : State}

theorem State.rxByte_mem_offers {b : Byte} {rest : List Byte} (hp : s.ports.rx = b :: rest)
    (hr : s.rxReady = true) :
    (Event.rxByte b, { s with ports := { s.ports with rx := rest } }) ∈ s.offers := by
  simp [State.offers, State.offeredRx, hp, hr]

theorem State.send_mem_offers {m : List Byte} {rest : List (List Byte)} (hp : s.ports.send = m :: rest)
    (hr : s.sendReady = true) :
    (Event.send m, { s with ports := { s.ports with send := rest } }) ∈ s.offers := by
  simp [State.offers, State.offeredSend, hp, hr]

theorem State.xportErr_mem_offers {n : Nat} (hp : s.ports.xportErr = n + 1) :
    (Event.xportErr, { s with ports := { s.ports with xportErr := n } }) ∈ s.offers := by
  simp [State.offers, State.offeredXportErr, hp]

theorem State.reset_mem_offers {c : Cfg} {rest : List Cfg} (hp : s.ports.reset = c :: rest) :
    (Event.reset c, { s with ports := { s.ports with reset := rest } }) ∈ s.offers := by
  simp [State.offers, State.offeredReset, hp]

theorem State.txDone_mem_offers {n : Nat} (hp : s.ports.txDone = n + 1) :
    (Event.txDone, { s with ports := { s.ports with txDone := n } }) ∈ s.offers := by
  simp [State.offers, State.offeredTxDone, hp]

theorem State.timeout_mem_offers {n : Nat} (hp : s.ports.timeout = n + 1) :
    (Event.timeout, { s with ports := { s.ports with timeout := n } }) ∈ s.offers := by
  simp [State.offers, State.offeredTimeout, hp]

theorem State.rxReady_of_mem_offers {t : State} {b : Byte} (h : (Event.rxByte b, t) ∈ s.offers) :
    s.rxReady = true := by
  obtain ⟨_, -, hr, -⟩ : ∃ rest, s.ports.rx = b :: rest ∧ s.rxReady = true ∧
      t = { s with ports := { s.ports with rx := rest } } := by
    simpa using State.mem_offers h
  exact hr

theorem State.sendReady_of_mem_offers {t : State} {m : List Byte} (h : (Event.send m, t) ∈ s.offers) :
    s.sendReady = true := by
  obtain ⟨_, -, hr, -⟩ : ∃ rest, s.ports.send = m :: rest ∧ s.sendReady = true ∧
      t = { s with ports := { s.ports with send := rest } } := by
    simpa using State.mem_offers h
  exact hr

/-- Taking an offered event moves no byte while bytes are not enabled. -/
theorem State.rx_of_mem_offers {e : Event} {u : State} (h : (e, u) ∈ s.offers)
    (hr : s.rxReady = false) : u.ports.rx = s.ports.rx := by
  rcases State.mem_offers h with ⟨_, _, -, -, rfl⟩ | ⟨_, -, -, rfl⟩ | ⟨_, -, -, rfl⟩ |
    ⟨_, _, -, hr', -⟩ | ⟨_, -, -, rfl⟩ | ⟨_, _, -, -, -, rfl⟩
  case inr.inr.inr.inl => rw [hr] at hr'; cases hr'
  all_goals rfl

/-- Taking an offered event moves no send request while they are not enabled. -/
theorem State.send_of_mem_offers {e : Event} {u : State} (h : (e, u) ∈ s.offers)
    (hr : s.sendReady = false) : u.ports.send = s.ports.send := by
  rcases State.mem_offers h with ⟨_, _, -, -, rfl⟩ | ⟨_, -, -, rfl⟩ | ⟨_, -, -, rfl⟩ |
    ⟨_, _, -, -, -, rfl⟩ | ⟨_, -, -, rfl⟩ | ⟨_, _, -, hr', -⟩
  case inr.inr.inr.inr.inr => rw [hr] at hr'; cases hr'
  all_goals rfl

end

/-! ### Executing the event taken leaves the ports as they are -/

theorem HandshakeOf.ports_eq {u t : State} (h : HandshakeOf u t) : t.ports = u.ports := by
  cases h <;> rfl

theorem ParserStep.ports_eq {s t : State} {b : Byte} (h : ParserStep s b t) : t.ports = s.ports := by
  cases h with
  | control _ _ _ _ hs => exact hs.ports_eq
  | checksumOk _ _ _ _ _ _ hs => exact hs.ports_eq
  | _ => rfl

theorem ports_of_whenSelected {c : Bool} {u v t : State} (h : whenSelected c (.next v) = .next t)
    (hv : v.ports = u.ports) : t.ports = u.ports := by
  obtain ⟨-, ht⟩ := whenSelected_next.mp h
  cases ht
  exact hv

/-- Every row TX_DONE can decode to leaves the ports. -/
theorem exec_decodeTxDone_ports {u t : State} : ∀ {fatal : Bool} {p : Phase} {rtxp : Bool},
    exec (decodeTxDone fatal p rtxp) u = .next t → t.ports = u.ports
  | true, _, _, h => ports_of_whenSelected h rfl
  | false, .writingMessage, _, h => ports_of_whenSelected h rfl
  | false, .writingAck, true, h => ports_of_whenSelected h rfl
  | false, .writingAck, false, h => ports_of_whenSelected h rfl
  | false, .readingFrame, _, h => ports_of_whenSelected h rfl
  | false, .awaitingAck, _, h => ports_of_whenSelected h rfl

/-- Every row TIMEOUT can decode to leaves the ports. -/
theorem exec_decodeTimeout_ports {u t : State} : ∀ {fatal : Bool} {p : Phase} {left : Bool},
    exec (decodeTimeout fatal p left) u = .next t → t.ports = u.ports
  | true, _, _, h => ports_of_whenSelected h rfl
  | false, .awaitingAck, true, h => ports_of_whenSelected h rfl
  | false, .awaitingAck, false, h => ports_of_whenSelected h rfl
  | false, .readingFrame, _, h => ports_of_whenSelected h rfl
  | false, .writingMessage, _, h => ports_of_whenSelected h rfl
  | false, .writingAck, _, h => ports_of_whenSelected h rfl

/-- A step changes the ports only by taking an offered event off its port. -/
theorem step_ports {s t : State} (h : step s = .next t) :
    t.ports = s.ports ∨ ∃ e u, (e, u) ∈ s.offers ∧ t.ports = u.ports := by
  obtain ⟨-, rfl⟩ | ⟨e, u, hfetch, -, hrow⟩ := step_cases h
  · exact .inl rfl
  obtain ⟨v, d, hv, hu⟩ := State.fetch_some hfetch
  have huv : u.ports = v.ports := by rw [hu]
  refine .inr ⟨e, v, hv, Eq.trans ?_ huv⟩
  rcases hrow with ⟨_, -, rfl⟩ | ⟨_, -, -, hparse⟩ | ⟨_, -, hr, hm, hx⟩ | ⟨_, -, -, -, rfl⟩ | ⟨-, hx⟩ |
    ⟨-, hx⟩ | ⟨-, -, rfl⟩ | ⟨-, -, rfl⟩
  · exact State.reopen_ports _ _
  · exact hparse.ports_eq
  · cases (exec_send hr hm).symm.trans hx
    exact State.acceptSend_ports _ _
  · rfl
  · exact exec_decodeTxDone_ports hx
  · exact exec_decodeTimeout_ports hx
  · rfl
  · rfl

theorem step_rx_of_not_rxReady {s t : State} (h : step s = .next t) (hr : s.rxReady = false) :
    t.ports.rx = s.ports.rx := by
  obtain hp | ⟨e, u, hu, hp⟩ := step_ports h
  · rw [hp]
  · rw [hp, State.rx_of_mem_offers hu hr]

theorem step_send_of_not_sendReady {s t : State} (h : step s = .next t) (hr : s.sendReady = false) :
    t.ports.send = s.ports.send := by
  obtain hp | ⟨e, u, hu, hp⟩ := step_ports h
  · rw [hp]
  · rw [hp, State.send_of_mem_offers hu hr]

/-- Settles O10: the arbiter is offered a byte or a request exactly while it is enabled and the other events
always, and a step takes only what is offered. -/
theorem enableConditions : Obligations.EnableConditions := fun _ =>
  ⟨fun _ _ hp => ⟨fun ⟨_, h⟩ => State.rxReady_iff.mp (State.rxReady_of_mem_offers h),
      fun he => ⟨_, State.rxByte_mem_offers hp (State.rxReady_iff.mpr he)⟩⟩,
    fun _ _ hp => ⟨fun ⟨_, h⟩ => State.sendReady_iff.mp (State.sendReady_of_mem_offers h),
      fun he => ⟨_, State.send_mem_offers hp (State.sendReady_iff.mpr he)⟩⟩,
    fun _ hp => ⟨_, State.xportErr_mem_offers hp⟩,
    fun _ _ hp => ⟨_, State.reset_mem_offers hp⟩,
    fun _ hp => ⟨_, State.txDone_mem_offers hp⟩,
    fun _ hp => ⟨_, State.timeout_mem_offers hp⟩,
    fun _ => step_rx_of_not_rxReady,
    fun _ => step_send_of_not_sendReady⟩

end Sys2Proof.Machine
end

section
/-! PROOFS. The fatal condition (`60_exceptions.md` R236): the bytes and send requests the arbiter withholds,
the rows its three remaining environment events decode to, and what those rows do. -/

namespace Sys2Proof.Machine

section
variable {s : State} (hf : s.fatal = true)
include hf

/-! ### What the arbiter withholds -/

theorem State.rxByte_not_mem_offers_of_fatal (b : Byte) (t : State) : (Event.rxByte b, t) ∉ s.offers :=
  fun h => Bool.eq_false_iff.mp (State.rxReady_of_fatal hf) (State.rxReady_of_mem_offers h)

theorem State.send_not_mem_offers_of_fatal (m : List Byte) (t : State) : (Event.send m, t) ∉ s.offers :=
  fun h => Bool.eq_false_iff.mp (State.sendReady_of_fatal hf) (State.sendReady_of_mem_offers h)

/-! ### The events that stay enabled and do nothing -/

theorem decode_txDone_of_fatal :
    decode (s.ctx .ev) Event.txDone.toInput = .ok (.anyEventWhileFatal .txDone) := by
  rw [decode_event _ _ rfl]
  simp [decodeEvent, decodeTxDone, State.ctx, hf]

theorem decode_timeout_of_fatal :
    decode (s.ctx .ev) Event.timeout.toInput = .ok (.anyEventWhileFatal .timeout) := by
  rw [decode_event _ _ rfl]
  simp [decodeEvent, decodeTimeout, State.ctx, hf]

theorem decode_xportErr_of_fatal :
    decode (s.ctx .ev) Event.xportErr.toInput = .ok (.anyEventWhileFatal .xportErr) := by
  rw [decode_event _ _ rfl]
  simp [decodeEvent, State.ctx, hf]

theorem exec_anyEventWhileFatal (e : FatalEvent) : exec (.anyEventWhileFatal e) s = .next s.begin :=
  whenSelected_of hf

end

/-! ### The obligation -/

/-- Settles O41: FATAL = 1 holds every readiness output at 0, so the arbiter withholds bytes and requests; the
other events decode to the row that only clears the report, and RESET reopens the connection. -/
theorem onlyResetWhileFatal : Obligations.OnlyResetWhileFatal := fun s hf =>
  ⟨State.rxReady_of_fatal hf, State.sendReady_of_fatal hf, State.txValid_of_fatal hf,
    State.awaiting_of_fatal hf, State.rxByte_not_mem_offers_of_fatal hf,
    State.send_not_mem_offers_of_fatal hf, exec_anyEventWhileFatal hf, decode_txDone_of_fatal hf,
    decode_timeout_of_fatal hf, decode_xportErr_of_fatal hf,
    fun cfg => ⟨s.reopen cfg, exec_reset cfg s, State.reopen_fatal s cfg⟩⟩

end Sys2Proof.Machine
end

section
/-! PROOFS. The opcode table as a whole (`30_encoding.md` section 9): every row's word decodes back to it, and
whatever the decoder gives is a row that the context selects, with the word that was read. -/

namespace Sys2Proof

/-! ### From a word to its row -/

/-- Settles O1: each row by its own round trip. -/
theorem decodeEncodeAgree : Obligations.DecodeEncodeAgree := by
  intro i c hw hf hr ha
  suffices h : Laws.RoundTrip.Statement i from h c hw hf hr ha
  cases i with
  | sof => exact Laws.RoundTrip.sof
  | ack => exact Laws.RoundTrip.ack
  | nack => exact Laws.RoundTrip.nack
  | can => exact Laws.RoundTrip.can
  | ftUnknown b => exact Laws.RoundTrip.ftUnknown b
  | lenNonzero b => exact Laws.RoundTrip.lenNonzero b
  | lenZero => exact Laws.RoundTrip.lenZero
  | bodyByte b => exact Laws.RoundTrip.bodyByte b
  | checksumOk b => exact Laws.RoundTrip.checksumOk b
  | checksumBad b => exact Laws.RoundTrip.checksumBad b
  | request => exact Laws.RoundTrip.request
  | response => exact Laws.RoundTrip.response
  | mtUnknown t => exact Laws.RoundTrip.mtUnknown t
  | applicationUpdate => exact Laws.RoundTrip.applicationUpdate
  | rqUnknown f => exact Laws.RoundTrip.rqUnknown f
  | rsUnknown r => exact Laws.RoundTrip.rsUnknown r
  | infoReceived => exact Laws.RoundTrip.infoReceived
  | auUnknown t => exact Laws.RoundTrip.auUnknown t
  | infoReceivedOperands id rest => exact Laws.RoundTrip.infoReceivedOperands id rest
  | shortMessage => exact Laws.RoundTrip.shortMessage
  | dataInReadingFrame => exact Laws.RoundTrip.dataInReadingFrame
  | ackInReadingFrame => exact Laws.RoundTrip.ackInReadingFrame
  | nackInReadingFrame => exact Laws.RoundTrip.nackInReadingFrame
  | canInReadingFrame => exact Laws.RoundTrip.canInReadingFrame
  | ackInAwaitingAck => exact Laws.RoundTrip.ackInAwaitingAck
  | nackInAwaitingAck => exact Laws.RoundTrip.nackInAwaitingAck
  | canInAwaitingAck => exact Laws.RoundTrip.canInAwaitingAck
  | retryLimit k => exact Laws.RoundTrip.retryLimit k
  | dataInAwaitingAck => exact Laws.RoundTrip.dataInAwaitingAck
  | dataInAwaitingAckLimit => exact Laws.RoundTrip.dataInAwaitingAckLimit
  | nonFrame => exact Laws.RoundTrip.nonFrame
  | reset cfg => exact Laws.RoundTrip.reset cfg
  | rxByte b => exact Laws.RoundTrip.rxByte b
  | send m => exact Laws.RoundTrip.send m
  | sendBadLength m => exact Laws.RoundTrip.sendBadLength m
  | txDoneWritingMessage => exact Laws.RoundTrip.txDoneWritingMessage
  | txDoneWritingAck => exact Laws.RoundTrip.txDoneWritingAck
  | txDoneWritingAckRetransmit => exact Laws.RoundTrip.txDoneWritingAckRetransmit
  | txDoneSpurious => exact Laws.RoundTrip.txDoneSpurious
  | timeoutAwaitingAck => exact Laws.RoundTrip.timeoutAwaitingAck
  | timeoutRetryLimit => exact Laws.RoundTrip.timeoutRetryLimit
  | timeoutStale => exact Laws.RoundTrip.timeoutStale
  | xportErr => exact Laws.RoundTrip.xportErr
  | anyEventWhileFatal e => exact Laws.RoundTrip.anyEventWhileFatal e
  | encodeData m => exact Laws.RoundTrip.encodeData m
  | encodeAck => exact Laws.RoundTrip.encodeAck

/-- Settles O4: seven closed instances of the decoder. -/
theorem sampleWordsDecode : Obligations.SampleWordsDecode := by
  refine ⟨?_, ?_, ?_, ?_, ?_, ?_, ?_⟩ <;> decide

/-! ### From an input to the row it selects -/

/-- The row is well formed, of the context's format and admitted by the context, and `w` is its word. -/
structure IsRow (c : Ctx) (i : Instr) (w : Input) : Prop where
  wellFormed : i.wellFormed = true
  admits : c.admits i = true
  format : i.format = c.fmt
  encode : i.encode = w

section
variable {c : Ctx} {i : Instr} {b : Byte}

theorem decodeFt_isRow (hf : c.fmt = .ft) (b : Byte) : IsRow c (decodeFt b) (.bytes [b]) := by
  by_cases ht : isFrameTag b = true
  · obtain ((rfl | rfl) | rfl) | rfl : ((b = 0x01 ∨ b = 0x06) ∨ b = 0x15) ∨ b = 0x18 := by
      simpa [isFrameTag] using ht
    all_goals exact ⟨rfl, rfl, hf.symm, rfl⟩
  · have ht := Bool.not_eq_true _ ▸ ht
    obtain ⟨h1, h6, h15, h18⟩ := isFrameTag_eq_false_iff.mp ht
    rw [decodeFt_unknown h1 h6 h15 h18]
    exact ⟨by simp [Instr.wellFormed, ht], rfl, hf.symm, rfl⟩

theorem decodeLenb_isRow (hf : c.fmt = .lenb) (b : Byte) : IsRow c (decodeLenb b) (.bytes [b]) := by
  unfold decodeLenb
  split
  case isTrue hb => exact ⟨rfl, rfl, hf.symm, by rw [hb]; rfl⟩
  case isFalse hb => exact ⟨bne_iff_ne.mpr hb, rfl, hf.symm, rfl⟩

theorem decodeBodyb_isRow (hf : c.fmt = .bodyb) (h : decodeBodyb c.len c.cnt c.csum b = .ok i) :
    IsRow c i (.bytes [b]) := by
  unfold decodeBodyb at h
  split at h
  case isTrue hc =>
    cases h
    exact ⟨rfl, decide_eq_true hc, hf.symm, rfl⟩
  split at h
  case isFalse => cases h
  case isTrue hc =>
    split at h <;> cases h
    case isTrue hb => exact ⟨rfl, by simp [Ctx.admits, hc, hb], hf.symm, rfl⟩
    case isFalse hb => exact ⟨rfl, by simp [Ctx.admits, hc, hb], hf.symm, rfl⟩

/-- Which frame kind a code stands for is read off its byte form. -/
theorem byte_of_frameKindOfCode {k : FrameKind} (h : frameKindOfCode b = some k) : k.byte = b := by
  unfold frameKindOfCode at h
  split_ifs at h with hb hb hb hb hb <;> cases h <;> exact hb.symm

theorem decodeHs_isRow {k : FrameKind} (hf : c.fmt = .hs) (hfatal : c.fatal = false)
    (h : decodeHs c.phase c.retriesLeft k = .ok i) : IsRow c i (.bytes [k.byte]) := by
  cases hp : c.phase with
  | writingMessage => cases k <;> simp [decodeHs, hp] at h
  | writingAck => cases k <;> simp [decodeHs, hp] at h
  | readingFrame =>
    cases k <;> simp only [decodeHs, hp, Except.ok.injEq] at h <;> subst h <;>
      exact ⟨rfl, by simp [Ctx.admits, hfatal, hp], hf.symm, rfl⟩
  | awaitingAck =>
    cases hr : c.retriesLeft <;> cases k <;>
      simp only [decodeHs, hp, hr, Except.ok.injEq, if_true, Bool.false_eq_true, if_false] at h <;>
      subst h <;> exact ⟨rfl, by simp [Ctx.admits, hfatal, hp, hr], hf.symm, rfl⟩

/-! ### The events -/

/-- An event's code and argument are those it was read from. -/
theorem toInput_of_eventOf {code : BitVec 3} {arg : EventArg} {e : Event} (h : eventOf code arg = .ok e) :
    e.toInput = .event code arg := by
  unfold eventOf at h
  split_ifs at h with hc hc hc hc hc hc <;> cases arg <;> cases h <;>
    exact congrArg (Input.event · _) hc.symm

theorem decodeTxDone_isRow (hf : c.fmt = .ev) :
    IsRow c (decodeTxDone c.fatal c.phase c.rtxp) Event.txDone.toInput := by
  unfold decodeTxDone
  split
  case isTrue hfatal => exact ⟨rfl, hfatal, hf.symm, rfl⟩
  case isFalse hfatal =>
    cases hp : c.phase <;> cases hx : c.rtxp <;>
      exact ⟨rfl, by simp [Ctx.admits, hfatal, hp, hx], hf.symm, rfl⟩

theorem decodeTimeout_isRow (hf : c.fmt = .ev) :
    IsRow c (decodeTimeout c.fatal c.phase c.retriesLeft) Event.timeout.toInput := by
  unfold decodeTimeout
  split
  case isTrue hfatal => exact ⟨rfl, hfatal, hf.symm, rfl⟩
  case isFalse hfatal =>
    cases hp : c.phase <;> cases hr : c.retriesLeft <;>
      exact ⟨rfl, by simp [Ctx.admits, hfatal, hp, hr], hf.symm, rfl⟩

theorem decodeSend_isRow {m : List Byte} (hf : c.fmt = .ev) (h : decodeSend m = .ok i) :
    IsRow c i (Event.send m).toInput := by
  unfold decodeSend at h
  split at h
  case isTrue hm => cases h; exact ⟨hm, rfl, hf.symm, rfl⟩
  split at h
  case isTrue hm => cases h; exact ⟨hm, rfl, hf.symm, rfl⟩
  case isFalse => cases h

theorem decodeEvent_isRow {e : Event} (hf : c.fmt = .ev) (h : decodeEvent c e = .ok i) :
    IsRow c i e.toInput := by
  cases e with
  | reset cfg => cases h; exact ⟨rfl, rfl, hf.symm, rfl⟩
  | rxByte b => cases h; exact ⟨rfl, rfl, hf.symm, rfl⟩
  | send m => exact decodeSend_isRow hf h
  | txDone => cases h; exact decodeTxDone_isRow hf
  | timeout => cases h; exact decodeTimeout_isRow hf
  | xportErr =>
    cases hfatal : c.fatal <;> simp only [decodeEvent, hfatal] at h <;> cases h
    · exact ⟨rfl, by simp [Ctx.admits, hfatal], hf.symm, rfl⟩
    · exact ⟨rfl, hfatal, hf.symm, rfl⟩

/-- A SEND has a row exactly when its message is an argument of SEND (R98). -/
theorem decodeSend_ok_iff {m : List Byte} : (∃ i, decodeSend m = .ok i) ↔ m.length ≤ 255 := by
  by_cases hl : legalLength m = true
  · have := (legalLength_iff.mp hl).2
    simp only [decodeSend, hl, if_true]
    exact ⟨fun _ => by omega, fun _ => ⟨_, rfl⟩⟩
  by_cases hb : refusedLength m = true
  · have := Machine.refusedLength_iff.mp hb
    simp only [decodeSend, hl, hb, if_true]
    exact ⟨fun _ => by omega, fun _ => ⟨_, rfl⟩⟩
  · have h1 := mt legalLength_iff.mpr hl
    have h2 := mt Machine.refusedLength_iff.mpr hb
    simp only [decodeSend, hl, hb]
    exact ⟨fun ⟨_, h⟩ => (nomatch h), fun _ => by omega⟩

/-- Settles O5: `eventOf` has no case for the codes 6 and 7, and SEND is the only event a row can be refused
to. -/
theorem eventCodes : Obligations.EventCodes := by
  intro c arg hf
  refine ⟨by simp [decode, hf, eventOf], by simp [decode, hf, eventOf], fun e => ?_⟩
  rw [Machine.decode_event c e hf]
  cases e with
  | send m => simpa [decodeEvent] using decodeSend_ok_iff
  | _ => simp [decodeEvent]

/-! ### The bytes of MSG and of the outgoing frame -/

theorem decodeTxf_isRow {bs : List Byte} (hf : c.fmt = .txf) (h : decodeTxf bs = .ok i) :
    IsRow c i (.bytes bs) ∧ bs ≠ [] := by
  unfold decodeTxf at h
  split at h
  · cases h
  · rename_i b
    split at h
    case isTrue hb => cases h; exact ⟨⟨rfl, rfl, hf.symm, by rw [hb]; rfl⟩, by simp⟩
    case isFalse => cases h
  · rename_i tag l body
    split at h
    case isFalse => cases h
    case isTrue hc =>
      obtain ⟨rfl, h2, hlen, hlast⟩ := hc
      cases h
      obtain ⟨m, k, rfl⟩ : ∃ m k, body = m ++ [k] := by
        have hne : body ≠ [] := by rintro rfl; simp at hlast
        exact ⟨_, _, (List.dropLast_append_getLast hne).symm⟩
      simp only [List.length_append, List.length_singleton] at hlen
      have hk : k = checksum l m := by simpa using hlast
      have hl : lengthByte m = l := lengthByte_eq_of_toNat hlen.symm
      have hm : legalLength m = true := legalLength_iff.mpr ⟨by omega, by omega⟩
      exact ⟨⟨by simpa [Instr.wellFormed] using hm, rfl, hf.symm, by
        simp [Instr.encode, encodeFrame, hl, hk]⟩, by simp⟩

/-- A format that reads the first byte of what is left gives the row of that byte, or SHORT_MESSAGE. -/
theorem decodeMt_isRow {bs : List Byte} (hf : c.fmt = .mt) (hr : c.rom = Rom.baseline) :
    (decodeMt c.rom c.n bs = .shortMessage ∧ (c.n < 2 ∨ bs = [])) ∨
      ∃ b rest, bs = b :: rest ∧ IsRow c (decodeMt c.rom c.n bs) (.bytes [b]) := by
  by_cases hn : c.n < 2
  · exact .inl ⟨by simp [decodeMt, hn], .inl hn⟩
  cases bs with
  | nil => exact .inl ⟨by simp [decodeMt], .inr rfl⟩
  | cons t rest =>
    have ha : decide (2 ≤ c.n) = true := decide_eq_true (by omega)
    refine .inr ⟨t, rest, rfl, ?_⟩
    rw [hr]
    match he : Rom.entry Rom.baseline.l0 t with
    | some .request =>
      simp only [decodeMt, hn, he, if_false]
      exact ⟨rfl, ha, hf.symm, by rw [Rom.baseline_l0_request.mp he]; rfl⟩
    | some .response =>
      simp only [decodeMt, hn, he, if_false]
      exact ⟨rfl, ha, hf.symm, by rw [Rom.baseline_l0_response.mp he]; rfl⟩
    | none =>
      simp only [decodeMt, hn, he, if_false]
      exact ⟨by simp [Instr.wellFormed, he], ha, hf.symm, rfl⟩

theorem decodeRq_isRow (hf : c.fmt = .rq) (hr : c.rom = Rom.baseline) (f : Byte) (rest : List Byte) :
    IsRow c (decodeRq c.rom (f :: rest)) (.bytes [f]) := by
  rw [hr]
  match he : Rom.entry Rom.baseline.req f with
  | some .applicationUpdate =>
    simp only [decodeRq, he]
    exact ⟨rfl, rfl, hf.symm, by rw [Rom.baseline_req_appUpdate.mp he]; rfl⟩
  | none =>
    simp only [decodeRq, he]
    exact ⟨by simp [Instr.wellFormed, he], rfl, hf.symm, rfl⟩

theorem decodeRs_cons (rom : Rom) (r : Byte) (rest : List Byte) :
    decodeRs rom (r :: rest) = .rsUnknown r := by
  simp [decodeRs]

theorem decodeRs_isRow (hf : c.fmt = .rs) (r : Byte) (rest : List Byte) :
    IsRow c (decodeRs c.rom (r :: rest)) (.bytes [r]) := by
  rw [decodeRs_cons]
  exact ⟨by simp [Instr.wellFormed], rfl, hf.symm, rfl⟩

theorem decodeAu_isRow (hf : c.fmt = .au) (hr : c.rom = Rom.baseline) (t : Byte) (rest : List Byte) :
    IsRow c (decodeAu c.rom (t :: rest)) (.bytes [t]) := by
  rw [hr]
  match he : Rom.entry Rom.baseline.au t with
  | some .infoReceived =>
    simp only [decodeAu, he]
    exact ⟨rfl, rfl, hf.symm, by rw [Rom.baseline_au_infoReceived.mp he]; rfl⟩
  | none =>
    simp only [decodeAu, he]
    exact ⟨by simp [Instr.wellFormed, he], rfl, hf.symm, rfl⟩

end

/-! ### Whatever the decoder gives -/

/-- How a decoded row stands to its input: SHORT_MESSAGE where a level is shown no byte or MSG is too short,
the row of the first byte in a format that consumes one of several, the row of the whole input elsewhere. -/
inductive DecodedFrom (c : Ctx) (x : Input) : Instr → Prop
  | short (h : (c.fmt = .mt ∧ c.n < 2) ∨
      ((Machine.readsFirst c.fmt = true ∨ c.fmt = .ir) ∧ x = .bytes [])) : DecodedFrom c x .shortMessage
  | head {i : Instr} {b : Byte} {rest : List Byte} (hf : Machine.readsFirst c.fmt = true)
      (hx : x = .bytes (b :: rest)) (h : IsRow c i (.bytes [b])) : DecodedFrom c x i
  | whole {i : Instr} (hf : Machine.readsFirst c.fmt = false) (hx : x ≠ .bytes [])
      (h : IsRow c i x) : DecodedFrom c x i

section
variable {c : Ctx} {i : Instr}

theorem oneByte_ok {bs : List Byte} {k : Byte → Except DecodeError Instr} :
    oneByte bs k = .ok i ↔ ∃ b, bs = [b] ∧ k b = .ok i := by
  match bs with
  | [] => simp [oneByte]
  | [b] => simp [oneByte]
  | _ :: _ :: _ => simp [oneByte]

/-- A row of a one-byte format is the row of the whole input. -/
theorem decodedFrom_of_byte {b : Byte} (hf : Machine.readsFirst c.fmt = false)
    (h : IsRow c i (.bytes [b])) : DecodedFrom c (.bytes [b]) i :=
  .whole hf (by simp) h

theorem decodedFrom_of_event {code : BitVec 3} {arg : EventArg}
    (h : decode c (.event code arg) = .ok i) : DecodedFrom c (.event code arg) i := by
  simp only [decode] at h
  split at h
  · rename_i hf
    split at h
    · rename_i e he
      exact .whole (by rw [hf]; rfl) (by simp) (toInput_of_eventOf he ▸ decodeEvent_isRow hf h)
    · cases h
  · cases h

theorem decodedFrom_of_bytes {bs : List Byte} (hr : c.rom = Rom.baseline)
    (h : decode c (.bytes bs) = .ok i) : DecodedFrom c (.bytes bs) i := by
  cases hf : c.fmt <;> simp only [decode, hf, oneByte_ok] at h
  case ft =>
    obtain ⟨b, rfl, h⟩ := h
    cases h
    exact decodedFrom_of_byte (by rw [hf]; rfl) (decodeFt_isRow hf b)
  case lenb =>
    obtain ⟨b, rfl, h⟩ := h
    cases h
    exact decodedFrom_of_byte (by rw [hf]; rfl) (decodeLenb_isRow hf b)
  case bodyb =>
    obtain ⟨b, rfl, h⟩ := h
    exact decodedFrom_of_byte (by rw [hf]; rfl) (decodeBodyb_isRow hf h)
  case hs =>
    obtain ⟨b, rfl, h⟩ := h
    split at h
    · rename_i k hk
      split at h
      case isTrue => cases h
      case isFalse hfatal =>
        exact decodedFrom_of_byte (by rw [hf]; rfl)
          (byte_of_frameKindOfCode hk ▸ decodeHs_isRow hf (Bool.not_eq_true _ ▸ hfatal) h)
    · cases h
  case mt =>
    cases h
    obtain ⟨hs, hn⟩ | ⟨b, rest, rfl, hrow⟩ := decodeMt_isRow (bs := bs) hf hr
    · rw [hs]
      exact .short (hn.imp (⟨hf, ·⟩) fun hb => ⟨.inl (by rw [hf]; rfl), by rw [hb]⟩)
    · exact .head (by rw [hf]; rfl) rfl hrow
  case rq =>
    cases h
    cases bs with
    | nil => exact .short (.inr ⟨.inl (by rw [hf]; rfl), rfl⟩)
    | cons f rest => exact .head (by rw [hf]; rfl) rfl (decodeRq_isRow hf hr f rest)
  case rs =>
    cases h
    cases bs with
    | nil => exact .short (.inr ⟨.inl (by rw [hf]; rfl), rfl⟩)
    | cons r rest => exact .head (by rw [hf]; rfl) rfl (decodeRs_isRow hf r rest)
  case au =>
    cases h
    cases bs with
    | nil => exact .short (.inr ⟨.inl (by rw [hf]; rfl), rfl⟩)
    | cons t rest => exact .head (by rw [hf]; rfl) rfl (decodeAu_isRow hf hr t rest)
  case ir =>
    cases bs with
    | nil => cases h; exact .short (.inr ⟨.inr hf, rfl⟩)
    | cons id rest =>
      simp only [decodeIr] at h
      split at h
      case isFalse => cases h
      case isTrue hl =>
        cases h
        exact .whole (by rw [hf]; rfl) (by simp) ⟨decide_eq_true hl, rfl, hf.symm, rfl⟩
  case txf =>
    obtain ⟨hrow, hne⟩ := decodeTxf_isRow hf h
    exact .whole (by rw [hf]; rfl) (by simpa using hne) hrow
  case ev => cases h

/-- A row whose word has a byte or is an event is not SHORT_MESSAGE. -/
theorem IsRow.ne_shortMessage {w : Input} (h : IsRow c i w) (hw : w ≠ .bytes []) : i ≠ .shortMessage := by
  rintro rfl
  exact hw h.encode.symm

end

/-- Settles O2: the three ways in which a row is decoded, read off the statement's clauses. -/
theorem decodedRowIsSelected : Obligations.DecodedRowIsSelected := by
  intro c x i hr h
  have hd : DecodedFrom c x i := by
    cases x with
    | bytes bs => exact decodedFrom_of_bytes hr h
    | event code arg => exact decodedFrom_of_event h
  cases hd with
  | short hs => exact ⟨rfl, rfl, fun _ => hs, fun hne => absurd rfl hne⟩
  | head hf hx hrow =>
    exact ⟨hrow.wellFormed, hrow.admits, fun hi => absurd hi (hrow.ne_shortMessage (by simp)),
      fun _ => ⟨hrow.format, fun _ => ⟨_, _, hrow.encode, hx⟩, fun h0 => (Bool.eq_false_iff.mp h0 hf).elim⟩⟩
  | whole hf hx hrow =>
    exact ⟨hrow.wellFormed, hrow.admits, fun hi => absurd hi (hrow.ne_shortMessage hx),
      fun _ => ⟨hrow.format, fun h1 => (Bool.eq_false_iff.mp hf h1).elim, fun _ => hrow.encode⟩⟩

end Sys2Proof
end

section
/-! PROOFS. The message decoder as a whole (`42_message_decoder.md` sections 1 to 8): what its descent can end
in, that its rows compose to it, and that its views lie inside MSG. -/

namespace Sys2Proof.Machine

/-! ### What the descent can end in -/

/-- The ends of the descent with the tags that lead there, for every contents of the tables (R141 to R150). -/
inductive DescentOf (rom : Rom) : List Byte → DecodeResult → Prop
  | short {msg : List Byte} : DescentOf rom msg .shortMessage
  | mtUnknown {t u : Byte} {rest : List Byte} (ht : Rom.entry rom.l0 t = none) :
      DescentOf rom (t :: u :: rest) (.unknownType 0 (rest.length + 2) t)
  | rqUnknown {t u : Byte} {rest : List Byte} (ht : Rom.entry rom.l0 t = some .request)
      (hu : Rom.entry rom.req u = none) :
      DescentOf rom (t :: u :: rest) (.unknownType 1 (rest.length + 1) u)
  | rsUnknown {t u : Byte} {rest : List Byte} (ht : Rom.entry rom.l0 t = some .response) :
      DescentOf rom (t :: u :: rest) (.unknownType 1 (rest.length + 1) u)
  | auUnknown {t u v : Byte} {rest : List Byte} (ht : Rom.entry rom.l0 t = some .request)
      (hu : Rom.entry rom.req u = some .applicationUpdate) (hv : Rom.entry rom.au v = none) :
      DescentOf rom (t :: u :: v :: rest) (.unknownType 2 (rest.length + 1) v)
  | info {t u v id : Byte} {rest : List Byte} (ht : Rom.entry rom.l0 t = some .request)
      (hu : Rom.entry rom.req u = some .applicationUpdate)
      (hv : Rom.entry rom.au v = some .infoReceived) :
      DescentOf rom (t :: u :: v :: id :: rest) (.message .infoReceived id 4 rest.length)

theorem decodeMessage_descent (rom : Rom) (msg : List Byte) :
    DescentOf rom msg (decodeMessage rom msg) := by
  match msg with
  | [] => exact .short
  | [_] => exact .short
  | t :: u :: rest =>
    match ht : Rom.entry rom.l0 t with
    | none => exact decodeMessage_of_unknown ht ▸ .mtUnknown ht
    | some .response => exact decodeMessage_of_response ht ▸ .rsUnknown ht
    | some .request =>
      rw [decodeMessage_of_request ht]
      match hu : Rom.entry rom.req u with
      | none =>
        rw [decodeRequest_of_unknown rfl hu]
        exact .rqUnknown ht hu
      | some .applicationUpdate =>
        rw [decodeRequest_of_appUpdate rfl hu]
        match rest with
        | [] => exact .short
        | v :: rest =>
          match hv : Rom.entry rom.au v with
          | none =>
            rw [decodeAppUpdate_of_unknown (t := v) rfl hv]
            exact .auUnknown ht hu hv
          | some .infoReceived =>
            rw [decodeAppUpdate_of_infoReceived (t := v) rfl hv]
            match rest with
            | [] => exact .short
            | id :: rest =>
              rw [decodeInfoReceived_of_id (t := id) rfl]
              exact .info ht hu hv

/-- Settles O28: the ends of the descent, each with its tags and lengths. -/
theorem decodedViewsInsideMessage : Obligations.DecodedViewsInsideMessage := by
  intro rom msg
  have hd := decodeMessage_descent rom msg
  constructor
  · intro o l t h
    rw [h] at hd
    cases hd with
    | mtUnknown ht => simp [ht]
    | rqUnknown ht hu => simp [ht, hu]; omega
    | rsUnknown ht => simp [ht]; omega
    | auUnknown ht hu hv => simp [ht, hu, hv]; omega
  · intro k id ro rl h
    rw [h] at hd
    cases hd with
    | info => simp; omega

/-! ### A row of the decoder: where it is selected and what it reports -/

/-- The condition under which a row of the decoder applies to MSG (R141 to R150). -/
def rowReached (rom : Rom) (msg : List Byte) : Instr → Bool
  | .request => reachesRequest rom msg
  | .response => reachesResponse rom msg
  | .mtUnknown t => decide (2 ≤ msg.length) && msg[0]? == some t && (Rom.entry rom.l0 t).isNone
  | .applicationUpdate => reachesAppUpdate rom msg
  | .rqUnknown f => reachesRequest rom msg && msg[1]? == some f && (Rom.entry rom.req f).isNone
  | .rsUnknown r => reachesResponse rom msg && msg[1]? == some r && (Rom.entry rom.rsp r).isNone
  | .infoReceived => reachesInfo rom msg
  | .auUnknown t => reachesAppUpdate rom msg && msg[2]? == some t && (Rom.entry rom.au t).isNone
  | .infoReceivedOperands id rest => reachesInfo rom msg && msg.drop 3 == id :: rest
  | .shortMessage => decodeMessage rom msg == .shortMessage
  | _ => false

/-- What a row of the decoder reports on MSG. -/
def rowResult (rom : Rom) (msg : List Byte) : Instr → DecodeResult
  | .request => decodeRequest rom msg 1
  | .response => decodeResponse rom msg 1
  | .mtUnknown t => .unknownType 0 msg.length t
  | .applicationUpdate => decodeAppUpdate rom msg 2
  | .rqUnknown f => .unknownType 1 (msg.length - 1) f
  | .rsUnknown r => .unknownType 1 (msg.length - 1) r
  | .infoReceived => decodeInfoReceived msg 3
  | .auUnknown t => .unknownType 2 (msg.length - 2) t
  | .infoReceivedOperands id rest => .message .infoReceived id 4 rest.length
  | _ => .shortMessage

/-- Every row of the decoder runs on MSG, where it is selected, and sets the report. -/
theorem exec_decoderRow {i : Instr} (hi : isDecoderRow i = true) (s : State) :
    exec i s = s.onMessage fun msg => whenSelected (rowReached s.rom msg i)
      (.next (s.reportResult (rowResult s.rom msg i))) := by
  cases i
  case request => rfl
  case response => rfl
  case mtUnknown => rfl
  case applicationUpdate => rfl
  case rqUnknown => rfl
  case rsUnknown => rfl
  case infoReceived => rfl
  case auUnknown => rfl
  case infoReceivedOperands => rfl
  case shortMessage => rfl
  all_goals cases hi

/-! ### The rows compose -/

section
variable {rom : Rom} {msg : List Byte}

theorem reachesRequest_iff :
    reachesRequest rom msg = true ↔
      ∃ t u rest, msg = t :: u :: rest ∧ Rom.entry rom.l0 t = some .request := by
  match msg with
  | [] => simp [reachesRequest]
  | [_] => simp [reachesRequest]
  | t :: u :: rest => simp

theorem reachesResponse_iff :
    reachesResponse rom msg = true ↔
      ∃ t u rest, msg = t :: u :: rest ∧ Rom.entry rom.l0 t = some .response := by
  match msg with
  | [] => simp [reachesResponse]
  | [_] => simp [reachesResponse]
  | t :: u :: rest => simp

theorem reachesAppUpdate_iff :
    reachesAppUpdate rom msg = true ↔ ∃ t u rest, msg = t :: u :: rest ∧
      Rom.entry rom.l0 t = some .request ∧ Rom.entry rom.req u = some .applicationUpdate := by
  match msg with
  | [] => simp [reachesAppUpdate, reachesRequest]
  | [_] => simp [reachesAppUpdate, reachesRequest]
  | t :: u :: rest => simp

theorem reachesInfo_iff :
    reachesInfo rom msg = true ↔ ∃ t u v rest, msg = t :: u :: v :: rest ∧
      Rom.entry rom.l0 t = some .request ∧ Rom.entry rom.req u = some .applicationUpdate ∧
        Rom.entry rom.au v = some .infoReceived := by
  match msg with
  | [] => simp [reachesInfo, reachesAppUpdate, reachesRequest]
  | [_] => simp [reachesInfo, reachesAppUpdate, reachesRequest]
  | [_, _] => simp [reachesInfo]
  | t :: u :: v :: rest => simp [and_assoc]

/-- A row that is selected on MSG reports what the whole decoder reports. -/
theorem rowResult_eq_decodeMessage {i : Instr} (h : rowReached rom msg i = true) :
    rowResult rom msg i = decodeMessage rom msg := by
  cases i
  case request =>
    obtain ⟨t, u, rest, rfl, ht⟩ := reachesRequest_iff.mp h
    exact (decodeMessage_of_request ht).symm
  case response =>
    obtain ⟨t, u, rest, rfl, ht⟩ := reachesResponse_iff.mp h
    rw [rowResult, decodeResponse_of_tag (t := u) rfl, decodeMessage_of_response ht]
    rfl
  case mtUnknown t =>
    simp only [rowReached, Bool.and_eq_true, decide_eq_true_eq, beq_iff_eq,
      Option.isNone_iff_eq_none] at h
    obtain ⟨⟨hlen, h0⟩, ht⟩ := h
    match msg with
    | t :: u :: rest => cases h0; rw [decodeMessage_of_unknown ht]; rfl
  case applicationUpdate =>
    obtain ⟨t, u, rest, rfl, ht, hu⟩ := reachesAppUpdate_iff.mp h
    rw [decodeMessage_of_request ht, decodeRequest_of_appUpdate rfl hu]
    rfl
  case rqUnknown f =>
    simp only [rowReached, Bool.and_eq_true, beq_iff_eq, Option.isNone_iff_eq_none] at h
    obtain ⟨⟨hreq, h1⟩, hf⟩ := h
    obtain ⟨t, u, rest, rfl, ht⟩ := reachesRequest_iff.mp hreq
    rw [decodeMessage_of_request ht, decodeRequest_of_unknown h1 hf]
    rfl
  case rsUnknown r =>
    simp only [rowReached, Bool.and_eq_true, beq_iff_eq] at h
    obtain ⟨⟨hrsp, h1⟩, -⟩ := h
    obtain ⟨t, u, rest, rfl, ht⟩ := reachesResponse_iff.mp hrsp
    cases h1
    rw [decodeMessage_of_response ht]
    rfl
  case infoReceived =>
    obtain ⟨t, u, v, rest, rfl, ht, hu, hv⟩ := reachesInfo_iff.mp h
    rw [decodeMessage_of_request ht, decodeRequest_of_appUpdate rfl hu,
      decodeAppUpdate_of_infoReceived (t := v) rfl hv]
    rfl
  case auUnknown t =>
    simp only [rowReached, Bool.and_eq_true, beq_iff_eq, Option.isNone_iff_eq_none] at h
    obtain ⟨⟨happ, h2⟩, hau⟩ := h
    obtain ⟨t, u, rest, rfl, ht, hu⟩ := reachesAppUpdate_iff.mp happ
    rw [decodeMessage_of_request ht, decodeRequest_of_appUpdate rfl hu,
      decodeAppUpdate_of_unknown h2 hau]
    rfl
  case infoReceivedOperands id rest =>
    simp only [rowReached, Bool.and_eq_true, beq_iff_eq] at h
    obtain ⟨hinfo, hdrop⟩ := h
    obtain ⟨t, u, v, rest', rfl, ht, hu, hv⟩ := reachesInfo_iff.mp hinfo
    obtain rfl : rest' = id :: rest := hdrop
    rw [decodeMessage_of_request ht, decodeRequest_of_appUpdate rfl hu,
      decodeAppUpdate_of_infoReceived (t := v) rfl hv, decodeInfoReceived_of_id (t := id) rfl]
    rfl
  case shortMessage => exact (beq_iff_eq.mp h).symm
  all_goals cases h

end

/-- What a row of the decoder does when it answers. -/
theorem exec_decoderRow_next {i : Instr} {s t : State} (hi : isDecoderRow i = true)
    (h : exec i s = .next t) :
    ∃ msg, s.message = .ok msg ∧ t = s.reportResult (decodeMessage s.rom msg) := by
  rw [exec_decoderRow hi] at h
  obtain ⟨-, msg, hm, h⟩ := State.onMessage_next.mp h
  obtain ⟨hsel, h⟩ := whenSelected_next.mp h
  cases h
  exact ⟨msg, hm, by rw [rowResult_eq_decodeMessage hsel]⟩

/-- Settles O27: a selected row reports what the whole decoder does, and that writes only the report. -/
theorem decoderRowsCompose : Obligations.DecoderRowsCompose := by
  intro i s t hi h
  obtain ⟨msg, hm, rfl⟩ := exec_decoderRow_next hi h
  exact ⟨msg, hm, rfl, State.reportResult_eq s _⟩

/-- Settles O22: each row is selected at its level and reports the next level's function. -/
theorem levelRowsGoOn : Obligations.LevelRowsGoOn := fun _ _ _ _ _ hk ht =>
  ⟨fun hm => exec_request hk hm (reachesRequest_cons_iff.mpr ht),
   fun hu hm => exec_applicationUpdate hk hm (reachesAppUpdate_cons_iff.mpr ⟨ht, hu⟩),
   fun hu hv hm => exec_infoReceived hk hm (reachesInfo_cons_iff.mpr ⟨⟨ht, hu⟩, hv⟩)⟩

end Sys2Proof.Machine
end

section
/-! PROOFS. The step (`45_engine.md` section 2, `60_exceptions.md` section 3): which event it takes and what
it leaves at the ports, and, once, what the row of the event taken does. -/

namespace Sys2Proof

theorem Event.toInput_injective : Function.Injective Event.toInput := by
  intro e e' h
  cases e <;> cases e' <;> simp_all [Event.toInput]

end Sys2Proof

namespace Sys2Proof.Machine

/-! ### Taking an event -/

theorem step_of_fetch {s t : State} {e : Event} {i : Instr} (hf : s.fetch = some (e, t))
    (hd : decode (t.ctx .ev) e.toInput = .ok i) : step s = exec i t := by
  simp [step, hf, hd]

/-- Settles O6: the two matches of `step` are taken by the two hypotheses. -/
theorem stepRunsDecodedEvent : Obligations.StepRunsDecodedEvent := fun _ _ _ _ hf hd _ =>
  step_of_fetch hf hd

theorem State.fetch_of_offers {s : State} {o : Event × State} (h : s.offers = [o]) : s.fetch = some o := by
  simp [State.fetch, h]

/-- With one event waiting, and that one enabled, it is the only one offered. -/
theorem State.offers_portsWith {s : State} {e : Event} (hp : s.ports = portsWith e)
    (hrx : (∃ b, e = .rxByte b) → s.rxReady = true) (hsend : (∃ m, e = .send m) → s.sendReady = true) :
    s.offers = [(e, { s with ports := {} })] := by
  have hoffers : s.offers = s.offeredReset ++ s.offeredXportErr ++ s.offeredTxDone ++ s.offeredRx ++
    s.offeredTimeout ++ s.offeredSend := rfl
  simp only [State.offeredReset, State.offeredXportErr, State.offeredTxDone, State.offeredRx,
    State.offeredTimeout, State.offeredSend, hp] at hoffers
  cases e with
  | rxByte b => simpa [portsWith, hrx ⟨b, rfl⟩] using hoffers
  | send m => simpa [portsWith, hsend ⟨m, rfl⟩] using hoffers
  | _ => exact hoffers

/-- On the event taken, the step of the machine is the spec's own step: both end as its decoding does. -/
theorem step_eq_deliver {s t : State} {e : Event} (hf : s.fetch = some (e, t)) : step s = t.deliver e := by
  cases hd : decode (t.ctx .ev) e.toInput with
  | ok i => simp only [step, hf, State.deliver, hd]
  | error r => simp only [step, hf, State.deliver, hd]

/-- Settles O7: the one offered event is the one fetched. -/
theorem stepTakesTheOnlyEvent : Obligations.StepTakesTheOnlyEvent := by
  intro s e hp hrx hsend
  exact step_eq_deliver (State.fetch_of_offers (State.offers_portsWith hp hrx hsend))

/-- Settles O8: the fetched event is an offered one, and a draw is the only further change. -/
theorem fetchTakesOnePendingEvent : Obligations.FetchTakesOnePendingEvent := by
  intro s t e h
  obtain ⟨u, d, hu, rfl⟩ := State.fetch_some h
  refine ⟨d, ?_⟩
  rcases State.mem_offers hu with ⟨c, rest, hp, rfl, rfl⟩ | ⟨n, hp, rfl, rfl⟩ | ⟨n, hp, rfl, rfl⟩ |
    ⟨b, rest, hp, hr, rfl, rfl⟩ | ⟨n, hp, rfl, rfl⟩ | ⟨m, rest, hp, hr, rfl, rfl⟩
  · exact .inl ⟨c, rest, hp, rfl, rfl⟩
  · exact .inr (.inl ⟨n, hp, rfl, rfl⟩)
  · exact .inr (.inr (.inl ⟨n, hp, rfl, rfl⟩))
  · exact .inr (.inr (.inr (.inl ⟨b, rest, hp, hr, rfl, rfl⟩)))
  · exact .inr (.inr (.inr (.inr (.inl ⟨n, hp, rfl, rfl⟩))))
  · exact .inr (.inr (.inr (.inr (.inr ⟨m, rest, hp, hr, rfl, rfl⟩))))

/-- Settles O9: nothing is offered, so nothing is fetched. -/
theorem idleStepKeepsState : Obligations.IdleStepKeepsState := by
  intro s hreset hxport hdone htimeout hrx hsend
  have hoffers : s.offers = [] := by
    refine List.eq_nil_iff_forall_not_mem.mpr fun ⟨e, t⟩ h => ?_
    rcases State.mem_offers h with ⟨_, _, hp, -⟩ | ⟨_, hp, -⟩ | ⟨_, hp, -⟩ | ⟨_, _, hp, hr, -⟩ |
      ⟨_, hp, -⟩ | ⟨_, _, hp, hr, -⟩
    · simp [hreset] at hp
    · simp [hxport] at hp
    · simp [hdone] at hp
    · simp [hrx hr] at hp
    · simp [htimeout] at hp
    · simp [hsend hr] at hp
  simp [step, State.fetch_none.mpr hoffers]

/-- Settles O12: the ports change by the event taken alone, and it was the oldest at its port. -/
theorem streamOrderKept : Obligations.StreamOrderKept := by
  intro s t h
  obtain hp | ⟨e, u, hu, hp⟩ := step_ports h
  · exact ⟨.inl (by rw [hp]), .inl (by rw [hp])⟩
  rw [hp]
  rcases State.mem_offers hu with ⟨_, _, -, -, rfl⟩ | ⟨_, -, -, rfl⟩ | ⟨_, -, -, rfl⟩ |
    ⟨b, _, hrx, hr, -, rfl⟩ | ⟨_, -, -, rfl⟩ | ⟨m, _, hsend, hr, -, rfl⟩
  · exact ⟨.inl rfl, .inl rfl⟩
  · exact ⟨.inl rfl, .inl rfl⟩
  · exact ⟨.inl rfl, .inl rfl⟩
  · exact ⟨.inr ⟨b, hrx, hr⟩, .inl rfl⟩
  · exact ⟨.inl rfl, .inl rfl⟩
  · exact ⟨.inl rfl, .inr ⟨m, hsend, hr⟩⟩

/-! ### An event that is not enabled -/

section
variable {s : State}

theorem State.receive_held (hr : s.rxReady = false) (b : Byte) (c : Bool) (r : Result) :
    s.receive b c r = .next (s.holdByte b) := by
  simp [State.receive, hr]

theorem exec_rxByte_held (hr : s.rxReady = false) (b : Byte) :
    exec (.rxByte b) s = .next (s.holdByte b) := by
  simp [exec, execRxByte, hr]

theorem exec_send_held {m : List Byte} (hr : s.sendReady = false) (hm : legalLength m = true) :
    exec (.send m) s = .next (s.holdSend m) :=
  (whenSelected_of hm).trans (by simp [hr])

theorem exec_sendBadLength_held {m : List Byte} (hr : s.sendReady = false)
    (hm : refusedLength m = true) : exec (.sendBadLength m) s = .next (s.holdSend m) :=
  (whenSelected_of hm).trans (by simp [hr])

end

/-- Settles O11: every parser row holds its own byte while `rx_ready = 0`, as RX_BYTE does. -/
theorem heldEventsWait : Obligations.HeldEventsWait := by
  intro s b m
  refine ⟨fun hr => ?bytes, fun hr hlo hhi => exec_send_held hr (legalLength_iff.mpr ⟨hlo, hhi⟩),
    fun hr hm => exec_sendBadLength_held hr (refusedLength_iff.mpr hm)⟩
  case bytes =>
    have hrow : ∀ (b' : Byte) (c : Bool) (r : Result), s.receive b' c r = exec (.rxByte b') s :=
      fun b' c r => by rw [State.receive_held hr, exec_rxByte_held hr]
    exact ⟨exec_rxByte_held hr b, hrow _ _ _, hrow _ _ _, hrow _ _ _, hrow _ _ _, hrow _ _ _,
      hrow _ _ _, hrow _ _ _, hrow _ _ _, hrow _ _ _, hrow _ _ _⟩

/-! ### RX_BYTE and the rows of the parser -/

section
variable {s : State} {b : Byte}

theorem exec_rxByte_idle (hr : s.rxReady = true) (hp : s.pst = .idle) :
    exec (.rxByte b) s = exec (decodeFt b) s := by
  simp only [exec, execRxByte, hr, hp, if_true, decodeFt]
  split_ifs <;> rfl

theorem exec_rxByte_len (hr : s.rxReady = true) (hp : s.pst = .len) :
    exec (.rxByte b) s = exec (decodeLenb b) s := by
  simp only [exec, execRxByte, hr, hp, if_true, decodeLenb]
  split_ifs <;> rfl

theorem exec_rxByte_body {i : Instr} (hr : s.rxReady = true) (hp : s.pst = .body)
    (h : decodeBodyb s.len s.cnt s.csum b = .ok i) : exec (.rxByte b) s = exec i s := by
  simp only [exec, execRxByte, hr, hp, if_true, State.beforeLast, State.atLast, decide_eq_true_eq]
  unfold decodeBodyb at h
  split_ifs at h ⊢ <;> cases h <;> rfl

end

/-- Settles O13: in each parser state RX_BYTE tests the byte as that state's format does. -/
theorem rxByteRunsParserRow : Obligations.RxByteRunsParserRow := by
  intro s b i hr h
  cases hp : s.pst with
  | idle =>
    obtain rfl : decodeFt b = i := by simpa [hp, formatOf, decode, oneByte, State.ctx] using h
    exact exec_rxByte_idle hr hp
  | len =>
    obtain rfl : decodeLenb b = i := by simpa [hp, formatOf, decode, oneByte, State.ctx] using h
    exact exec_rxByte_len hr hp
  | body => exact exec_rxByte_body hr hp (by simpa [hp, formatOf, decode, oneByte, State.ctx] using h)

/-! ### What the handshake leaves unchanged -/

section
variable {u t : State} (h : HandshakeOf u t)
include h

/-- The handshake writes its own registers and four fields of the report. -/
theorem HandshakeOf.eq_update :
    t = { u with
      phase := t.phase, retry := t.retry, rtxp := t.rtxp, fatal := t.fatal, fcause := t.fcause,
      report := { u.report with rpt := t.report.rpt, err := t.report.err,
                                violation := t.report.violation, needsWrite := t.report.needsWrite } } := by
  cases h <;> rfl

theorem HandshakeOf.sameParser : u.sameParser t := by
  rw [h.eq_update]; exact ⟨rfl, rfl, rfl, rfl, rfl⟩

theorem HandshakeOf.sameOut : u.sameOut t := by
  rw [h.eq_update]; exact ⟨rfl, rfl⟩

theorem HandshakeOf.view_eq : t.view = u.view := by rw [h.eq_update]

theorem HandshakeOf.frames_eq : t.frames = u.frames := by rw [h.eq_update]

theorem HandshakeOf.frameKind_eq : t.report.frameKind = u.report.frameKind := by rw [h.eq_update]

theorem HandshakeOf.consumed_eq : t.report.consumed = u.report.consumed := by rw [h.eq_update]

theorem HandshakeOf.pst_eq : t.pst = u.pst := h.sameParser.1

end

/-! ### What the row of an event does -/

/-- The enabled rows of the format EV, as the change each makes (`45_engine.md` R206 to R212,
`43_handshake.md` R167 to R176, `60_exceptions.md` R236). -/
inductive EventStep (u : State) : Instr → State → Prop
  | reset (cfg : Cfg) : EventStep u (.reset cfg) (u.reopen cfg)
  | rxByte {b : Byte} {t : State} (hr : u.rxReady = true) (h : ParserStep u b t) :
      EventStep u (.rxByte b) t
  | send {m : List Byte} (hr : u.sendReady = true) (hm : legalLength m = true) :
      EventStep u (.send m) (u.acceptSend m)
  | sendBadLength {m : List Byte} (hr : u.sendReady = true) (hm : refusedLength m = true) :
      EventStep u (.sendBadLength m) (u.begin.raise .sendLength .sendRejected)
  | messageWritten (hf : u.fatal = false) (hp : u.phase = .writingMessage) :
      EventStep u .txDoneWritingMessage { u.begin with phase := .awaitingAck }
  | ackWritten (hf : u.fatal = false) (hp : u.phase = .writingAck) (hx : u.rtxp = false) :
      EventStep u .txDoneWritingAck { u.begin with phase := .readingFrame }
  | retransmit (hf : u.fatal = false) (hp : u.phase = .writingAck) (hx : u.rtxp = true) :
      EventStep u .txDoneWritingAckRetransmit
        (({ u.begin with rtxp := false }).queueOut.setRpt .needsWrite)
  | timeout (hf : u.fatal = false) (hp : u.phase = .awaitingAck) (hr : u.retriesLeft = true) :
      EventStep u .timeoutAwaitingAck (u.begin.countRetry.queueOut.setRpt .needsWrite)
  | timeoutLimit (hf : u.fatal = false) (hp : u.phase = .awaitingAck) (hr : u.retriesLeft = false) :
      EventStep u .timeoutRetryLimit u.begin.exceedLimit
  | xportErr (hf : u.fatal = false) :
      EventStep u .xportErr (u.begin.enterFatal .transport .transport .transportError)
  | ignored {i : Instr}
      (hi : i = .txDoneSpurious ∨ i = .timeoutStale ∨ ∃ e, i = .anyEventWhileFatal e) :
      EventStep u i u.begin

/-- The row of an enabled event does one of these. -/
theorem exec_event_next {i : Instr} {u t : State} (hi : i.format = .ev)
    (hrx : ∀ b, i = .rxByte b → u.rxReady = true)
    (hsend : ∀ m, i = .send m ∨ i = .sendBadLength m → u.sendReady = true)
    (h : exec i u = .next t) : EventStep u i t := by
  cases i
  case reset cfg => cases h; exact .reset cfg
  case rxByte b => exact .rxByte (hrx b rfl) (execRxByte_next (hrx b rfl) h)
  case send m =>
    obtain ⟨hm, -⟩ := whenSelected_next.mp h
    have hr := hsend m (.inl rfl)
    cases (exec_send hr hm).symm.trans h
    exact .send hr hm
  case sendBadLength m =>
    obtain ⟨hm, -⟩ := whenSelected_next.mp h
    have hr := hsend m (.inr rfl)
    cases (exec_sendBadLength hr hm).symm.trans h
    exact .sendBadLength hr hm
  case txDoneWritingMessage =>
    obtain ⟨hc, h⟩ := whenSelected_next.mp h
    obtain ⟨hf, hp⟩ := State.inPhase_iff.mp hc
    cases h
    exact .messageWritten hf hp
  case txDoneWritingAck =>
    obtain ⟨hc, h⟩ := whenSelected_next.mp h
    obtain ⟨⟨hf, hp⟩, hx⟩ : (u.fatal = false ∧ u.phase = .writingAck) ∧ u.rtxp = false := by
      simpa [State.inPhase_iff] using hc
    cases h
    exact .ackWritten hf hp hx
  case txDoneWritingAckRetransmit =>
    obtain ⟨hc, h⟩ := whenSelected_next.mp h
    obtain ⟨⟨hf, hp⟩, hx⟩ : (u.fatal = false ∧ u.phase = .writingAck) ∧ u.rtxp = true := by
      simpa [State.inPhase_iff] using hc
    cases h
    exact .retransmit hf hp hx
  case timeoutAwaitingAck =>
    obtain ⟨hc, h⟩ := whenSelected_next.mp h
    obtain ⟨⟨hf, hp⟩, hr⟩ : (u.fatal = false ∧ u.phase = .awaitingAck) ∧ u.retriesLeft = true := by
      simpa [State.inPhase_iff] using hc
    cases h
    exact .timeout hf hp hr
  case timeoutRetryLimit =>
    obtain ⟨hc, h⟩ := whenSelected_next.mp h
    obtain ⟨⟨hf, hp⟩, hr⟩ : (u.fatal = false ∧ u.phase = .awaitingAck) ∧ u.retriesLeft = false := by
      simpa [State.inPhase_iff] using hc
    cases h
    exact .timeoutLimit hf hp hr
  case xportErr =>
    obtain ⟨hc, h⟩ := whenSelected_next.mp h
    cases h
    exact .xportErr (by simpa using hc)
  case txDoneSpurious =>
    obtain ⟨-, h⟩ := whenSelected_next.mp h
    cases h
    exact .ignored (.inl rfl)
  case timeoutStale =>
    obtain ⟨-, h⟩ := whenSelected_next.mp h
    cases h
    exact .ignored (.inr (.inl rfl))
  case anyEventWhileFatal e =>
    obtain ⟨-, h⟩ := whenSelected_next.mp h
    cases h
    exact .ignored (.inr (.inr ⟨e, rfl⟩))
  all_goals cases hi

/-- The row an event is decoded to carries the event's code and argument. -/
theorem encode_of_decode_event {u : State} {e : Event} {i : Instr}
    (h : decode (u.ctx .ev) e.toInput = .ok i) : i.format = .ev ∧ i.encode = e.toInput := by
  rw [decode_event _ _ rfl] at h
  have hrow := decodeEvent_isRow (c := u.ctx .ev) rfl h
  exact ⟨hrow.format, hrow.encode⟩

/-- Fetching changes the ports and the counter of free values; no send request appears. -/
theorem State.fetch_update {s u : State} {e : Event} (h : s.fetch = some (e, u)) :
    ∃ p d, u = { s with ports := p, draws := d } ∧ ∀ m ∈ p.send, m ∈ s.ports.send := by
  obtain ⟨v, d, hv, rfl⟩ := State.fetch_some h
  rcases State.mem_offers hv with ⟨_, _, -, -, rfl⟩ | ⟨_, -, -, rfl⟩ | ⟨_, -, -, rfl⟩ |
    ⟨_, _, -, -, -, rfl⟩ | ⟨_, -, -, rfl⟩ | ⟨m, rest, hp, -, -, rfl⟩
  case inr.inr.inr.inr.inr =>
    exact ⟨_, _, rfl, fun m' hm' => by rw [hp]; exact List.mem_cons_of_mem m hm'⟩
  all_goals exact ⟨_, _, rfl, fun _ hm => hm⟩

theorem State.rxReady_of_fetch {s u : State} {b : Byte} (h : s.fetch = some (.rxByte b, u)) :
    u.rxReady = true := by
  obtain ⟨v, d, hv, -⟩ := State.fetch_some h
  obtain ⟨p, d, rfl, -⟩ := State.fetch_update h
  exact (State.rxReady_of_mem_offers hv : s.rxReady = true)

theorem State.sendReady_of_fetch {s u : State} {m : List Byte} (h : s.fetch = some (.send m, u)) :
    u.sendReady = true := by
  obtain ⟨v, d, hv, -⟩ := State.fetch_some h
  obtain ⟨p, d, rfl, -⟩ := State.fetch_update h
  exact (State.sendReady_of_mem_offers hv : s.sendReady = true)

/-- A step is idle, or it is the row of the event taken, in the state without that event. -/
theorem step_event {s t : State} (h : step s = .next t) :
    (s.fetch = none ∧ t = s) ∨ ∃ e u i, s.fetch = some (e, u) ∧ i.encode = e.toInput ∧ EventStep u i t := by
  obtain hidle | ⟨e, u, i, hf, hd, hx⟩ := step_next h
  · exact .inl hidle
  obtain ⟨hfmt, henc⟩ := encode_of_decode_event hd
  refine .inr ⟨e, u, i, hf, henc, exec_event_next hfmt ?rx ?send hx⟩
  case rx =>
    rintro b rfl
    obtain rfl : Event.rxByte b = e := Event.toInput_injective henc
    exact State.rxReady_of_fetch hf
  case send =>
    intro m hi
    obtain rfl : Event.send m = e := by
      obtain rfl | rfl := hi
      all_goals exact Event.toInput_injective henc
    exact State.sendReady_of_fetch hf

end Sys2Proof.Machine
end

section
/-! PROOFS. What the checksum detects (`41_checksum.md` R134): the fold moves by the difference that a byte
moves by, and it does not see the order of the bytes. -/

namespace Sys2Proof

theorem foldXor_append (a : Byte) (bs : List Byte) (b : Byte) :
    foldXor a (bs ++ [b]) = foldXor a bs ^^^ b := by
  simp [foldXor_eq_foldl]

/-- The running checksum takes one more byte (R132). -/
theorem checksum_append (l : Byte) (bs : List Byte) (b : Byte) :
    checksum l (bs ++ [b]) = checksum l bs ^^^ b :=
  foldXor_append _ bs b

theorem foldXor_xor (a d : Byte) (bs : List Byte) : foldXor (a ^^^ d) bs = foldXor a bs ^^^ d := by
  induction bs generalizing a with
  | nil => rfl
  | cons b bs ih => rw [foldXor, foldXor, BitVec.xor_assoc, BitVec.xor_comm d, ← BitVec.xor_assoc, ih]

/-- Changing a byte by a difference changes the fold by that difference. -/
theorem foldXor_set {bs : List Byte} {i : Nat} {x : Byte} (a d : Byte) (h : bs[i]? = some x) :
    foldXor a (bs.set i (x ^^^ d)) = foldXor a bs ^^^ d := by
  induction bs generalizing a i with
  | nil => simp at h
  | cons b bs ih =>
    cases i with
    | zero =>
      obtain rfl : b = x := by simpa using h
      rw [List.set_cons_zero, foldXor, foldXor, ← BitVec.xor_assoc, foldXor_xor]
    | succ i => exact ih (a ^^^ b) (by simpa using h)

theorem checksum_set_xor {bs : List Byte} {i : Nat} {x : Byte} (l d : Byte) (h : bs[i]? = some x) :
    checksum l (bs.set i (x ^^^ d)) = checksum l bs ^^^ d :=
  foldXor_set _ d h

/-- One byte replaced is detected (R134 (a)). -/
theorem checksum_set_eq_iff {bs : List Byte} {i : Nat} (l b : Byte) (hi : i < bs.length) :
    checksum l (bs.set i b) = checksum l bs ↔ bs[i]? = some b := by
  have hx : bs[i]? = some bs[i] := List.getElem?_eq_getElem hi
  have hb : b = bs[i] ^^^ (bs[i] ^^^ b) := by rw [← BitVec.xor_assoc, BitVec.xor_self, BitVec.zero_xor]
  calc checksum l (bs.set i b) = checksum l bs
      ↔ checksum l bs ^^^ (bs[i] ^^^ b) = checksum l bs := by
        rw [← checksum_set_xor l _ hx, ← hb]
    _ ↔ bs[i] ^^^ b = 0 := by simp
    _ ↔ bs[i] = b := BitVec.xor_eq_zero_iff
    _ ↔ bs[i]? = some b := by rw [hx, Option.some.injEq]

theorem checksum_perm {bs cs : List Byte} (l : Byte) (h : bs.Perm cs) : checksum l cs = checksum l bs := by
  have hcomm : RightCommutative fun a b : Byte => a ^^^ b :=
    ⟨fun a b c => by rw [BitVec.xor_assoc, BitVec.xor_comm b, ← BitVec.xor_assoc]⟩
  rw [checksum_eq_foldl, checksum_eq_foldl]
  exact (h.foldl_eq _).symm

/-- Settles O56: a change of one byte moves the checksum by its difference, so two equal ones cancel. -/
theorem checksumDetects : Obligations.ChecksumDetects := by
  intro l bs
  refine ⟨fun i b hi => checksum_set_eq_iff l b hi, fun cs h => checksum_perm l h, ?twice⟩
  case twice =>
    intro i j x y d hij hx hy
    have hy' : (bs.set i (x ^^^ d))[j]? = some y := by rwa [List.getElem?_set_ne hij]
    rw [checksum_set_xor l d hy', checksum_set_xor l d hx, BitVec.xor_assoc, BitVec.xor_self,
      BitVec.xor_zero]

end Sys2Proof
end

section
/-! PROOFS. The invariant of the reachable states (`10_state.md` R42): it holds at reset, every step keeps
it, and from a state that has it every step answers a next state. -/

namespace Sys2Proof.Machine

/-! ### Views inside MSG, and the frame in OUTBUF -/

/-- Any part of cells that can be read can be read. -/
theorem Memory.view_slice {m : Memory} {n off k : Nat} {bs : List Byte}
    (h : Memory.view m 0 n = some bs) (hk : off + k ≤ n) : ∃ cs, Memory.view m off k = some cs := by
  have hdrop := Memory.view_drop h (k := off) (by omega)
  rw [Nat.zero_add] at hdrop
  exact ⟨_, Memory.view_take hdrop (by omega)⟩

/-- The view a message gives ends where the message ends. -/
theorem decodeMessage_view {rom : Rom} {msg : List Byte} {n : Nat} {v : View}
    (hlen : msg.length ≤ 254) (hv : (decodeMessage rom msg).view n = some v) :
    v.serial = n ∧ v.off.toNat + v.len.toNat = msg.length := by
  have hd := decodeMessage_descent rom msg
  generalize decodeMessage rom msg = r at hd hv
  cases hd with
  | short => cases hv
  | _ =>
    cases hv
    simp only [List.length_cons, BitVec.toNat_ofNat] at hlen ⊢
    exact ⟨trivial, by omega⟩

theorem isDataFrame_encodeFrame {m : List Byte} (hm : legalLength m = true) :
    isDataFrame (encodeFrame m) = true := by
  obtain ⟨-, hhi⟩ := legalLength_iff.mp hm
  refine isDataFrame_iff.mpr ⟨lengthByte m, m ++ [checksum (lengthByte m) m], rfl, ?_, by simp⟩
  simp only [lengthByte, BitVec.toNat_ofNat, List.length_append, List.length_singleton]
  omega

/-! ### The invariant through the shared operations -/

section
variable {s : State}

theorem State.Inv.withPorts (hi : s.Inv) (p : Ports) (d : Nat) (hp : ∀ m ∈ p.send, m ∈ s.ports.send) :
    State.Inv { s with ports := p, draws := d } :=
  { hi with sendArgs := fun m hm => hi.sendArgs m (hp m hm) }

theorem State.Inv.withReport (hi : s.Inv) {r : Report} (hr : r.err ≠ .protocolViolation) :
    State.Inv { s with report := r } :=
  { hi with errCode := hr }

theorem State.Inv.begin (hi : s.Inv) : s.begin.Inv :=
  hi.withReport (r := {}) (by decide)

theorem State.Inv.beginRx (hi : s.Inv) : s.beginRx.Inv :=
  { hi.begin with liveView := fun _ hv => nomatch hv }

theorem State.Inv.rtxp_of_phase_ne (hi : s.Inv) (hp : s.phase ≠ .writingAck) : s.rtxp = false :=
  Bool.eq_false_iff.mpr fun hx => hp (hi.rtxpPhase hx)

theorem State.inFlight_iff :
    s.inFlight = true ↔ s.phase = .writingMessage ∨ s.phase = .awaitingAck ∨ s.rtxp = true := by
  simp [State.inFlight, or_assoc]

/-- The fatal condition is entered with its cause; nothing else is asked of the state. -/
theorem State.Inv.enterFatal (hi : s.Inv) {c : FCause} {e : Err} (r : Rpt) (hc : c ≠ .none)
    (he : e ≠ .protocolViolation) : (s.enterFatal c e r).Inv :=
  { hi with fatalIff := iff_of_true rfl hc, errCode := he }

theorem State.Inv.exceedLimit (hi : s.Inv) : s.exceedLimit.Inv :=
  hi.enterFatal .fatal (by decide) (by decide)

/-- A retransmission counted where one is left stays within the limit. -/
theorem State.countRetry_le (hr : s.retriesLeft = true) :
    s.countRetry.retry.toNat ≤ s.cfg.maxRetry.toNat := by
  have hlt := State.retriesLeft_iff.mp hr
  rw [State.countRetry_retry]
  bv_omega

/-- While the answer is awaited the frame in OUTBUF may be queued again. -/
theorem State.Inv.queueAgain (hi : s.Inv) (hp : s.phase = .awaitingAck) (hr : s.retriesLeft = true)
    (r : Rpt) : (s.countRetry.queueOut.setRpt r).Inv :=
  have hx : s.rtxp = false := hi.rtxp_of_phase_ne (by rw [hp]; decide)
  { hi with
    retryMax := State.countRetry_le hr
    rtxpPhase := fun h => (Bool.eq_false_iff.mp hx h).elim
    outFrame := fun _ => hi.outFrame (State.inFlight_iff.mpr (.inr (.inl hp))) }

/-- The handshake keeps the invariant. -/
theorem State.Inv.handshake {u t : State} (hi : u.Inv) (h : HandshakeOf u t) : t.Inv := by
  cases h with
  | ackData hp hk =>
    have hx : u.rtxp = false := hi.rtxp_of_phase_ne (by rw [hp]; decide)
    exact { hi with
      rtxpPhase := fun _ => rfl
      outFrame := fun hm => by simp [State.inFlight, hx] at hm }
  | event hp hk => exact hi.withReport hi.errCode
  | success hp hk =>
    exact { hi with
      retryMax := Nat.zero_le _
      rtxpPhase := fun h => nomatch h
      outFrame := fun hm => nomatch hm }
  | again hp hk hr => exact hi.queueAgain hp hr .frameEvent
  | limit hp hk hr => exact hi.exceedLimit
  | violation hp hk hr =>
    exact { hi with
      retryMax := State.countRetry_le hr
      rtxpPhase := fun _ => rfl
      outFrame := fun _ => hi.outFrame (State.inFlight_iff.mpr (.inr (.inl hp))) }
  | violationLimit hp hk hr => exact (hi.withReport (r := u.violate.report) hi.errCode).exceedLimit

/-- The last body byte stored, the decoder's report and its view: the invariant before the handshake. -/
theorem State.Inv.afterData (hi : s.Inv) {b : Byte} {msg : List Byte}
    (hc : s.cnt.toNat + 1 = s.len.toNat) (hm : Memory.view s.rxbuf 0 s.cnt.toNat = some msg) :
    (s.afterData b msg).Inv :=
  have hlen : msg.length = s.cnt.toNat := Memory.view_length hm
  have hview : Memory.view (Memory.write s.rxbuf s.cnt.toNat b) 0 s.cnt.toNat = some msg := by
    rw [Memory.view_write_outside _ _ (.inr (Nat.zero_add _).le), hm]
  { hi with
    rxbufWf := Memory.wf_write b (cnt_lt_rxbufSize hc.le) hi.rxbufWf
    body := fun h => nomatch h
    liveView := fun v hv => by
      have := s.len.isLt
      obtain ⟨hserial, hends⟩ := decodeMessage_view (by omega) hv
      exact ⟨hserial, by change _ < s.len.toNat; omega, Memory.view_slice hview (by omega)⟩
    errCode := by
      rcases dataReport_err s.rom s.len msg with h | h | h <;>
        exact fun e => by cases h.symm.trans e }

/-- A body byte before the last keeps the fold of the stored bytes in CSUM. -/
theorem State.Inv.bodyByte (hi : s.Inv) {b : Byte} (hp : s.pst = .body)
    (hc : s.cnt.toNat + 1 < s.len.toNat) :
    State.Inv { s.beginRx with
      rxbuf := Memory.write s.rxbuf s.cnt.toNat b, csum := s.csum ^^^ b, cnt := s.cnt + 1 } :=
  { hi.beginRx with
    rxbufWf := Memory.wf_write b (cnt_lt_rxbufSize hc.le) hi.rxbufWf
    body := fun _ => by
      obtain ⟨hlt, bs, hbs, hsum⟩ := hi.body hp
      have hcnt : (s.cnt + 1).toNat = s.cnt.toNat + 1 := cnt_succ_toNat hlt
      refine ⟨by change (s.cnt + 1).toNat < s.len.toNat; omega, bs ++ [b], ?_, ?_⟩
      · have hlast := Memory.view_write_last b hbs
        rw [Nat.zero_add] at hlast
        exact hcnt ▸ hlast
      · exact (checksum_append s.len bs b).symm ▸ congrArg (· ^^^ b) hsum
    liveView := fun _ hv => nomatch hv }

/-- Every row of the parser keeps the invariant. -/
theorem State.Inv.parserStep {t : State} {b : Byte} (hi : s.Inv) (h : ParserStep s b t) : t.Inv := by
  cases h with
  | sof hp hb => exact { hi.beginRx with body := fun h => nomatch h }
  | control k t hp hb h =>
    exact (hi.beginRx.withReport (r := (s.afterControl k).report) (by simp [State.afterControl,
      State.completeFrame])).handshake h
  | ftUnknown hp hb =>
    exact hi.beginRx.withReport (r := { err := .unknownFrameType, rpt := .protocolError, errTag := b,
                                        consumed := 1 }) (by simp)
  | lenNonzero hp hb =>
    have hpos : 0 < b.toNat := by bv_omega
    exact { hi.beginRx with
      body := fun _ => ⟨hpos, [], rfl, rfl⟩
      liveView := fun _ hv => nomatch hv }
  | lenZero hp hb =>
    exact { hi.beginRx with
      body := fun h => nomatch h
      liveView := fun _ hv => nomatch hv
      errCode := by simp [State.consume, State.raise] }
  | bodyByte hp hc => exact hi.bodyByte hp hc
  | checksumOk msg t hp hc hb hm h => exact (hi.afterData hc hm).handshake h
  | checksumBad hp hc hb =>
    exact { hi.beginRx with
      rxbufWf := Memory.wf_write b (cnt_lt_rxbufSize hc.le) hi.rxbufWf
      body := fun h => nomatch h
      liveView := fun _ hv => nomatch hv
      errCode := by simp [State.consume, State.raise] }

/-- An accepted send request puts a frame in flight. -/
theorem State.Inv.acceptSend (hi : s.Inv) {m : List Byte} (hm : legalLength m = true) :
    (s.acceptSend m).Inv :=
  have hlen : (s.acceptSend m).outlen.toNat = m.length + 3 := State.loadFrame_outlen_toNat s hm
  have hview := viewOrFault_ok.mp (State.viewOrFault_loadFrame s hm)
  { hi.begin with
    outbufWf := Memory.wf_writeList _ (by
      have := (legalLength_iff.mp hm).2
      simp only [encodeFrame_length, outbufSize]
      omega) hi.outbufWf
    retryMax := Nat.zero_le _
    rtxpPhase := fun h => nomatch h
    outFrame := fun _ => by
      have := legalLength_iff.mp hm
      exact ⟨by omega, by omega, encodeFrame m, hview, isDataFrame_encodeFrame hm⟩
    errCode := fun h => nomatch h }

/-- RESET establishes the invariant, whatever the registers it leaves undefined hold. -/
theorem State.Inv.reopen (hi : s.Inv) (cfg : Cfg) : (s.reopen cfg).Inv where
  rxbufWf := Memory.wf_nil _
  outbufWf := Memory.wf_nil _
  body := fun h => nomatch h
  retryMax := Nat.zero_le _
  rtxpPhase := fun h => nomatch h
  outFrame := fun h => nomatch h
  fatalIff := by simp
  liveView := fun _ hv => nomatch hv
  sendArgs := hi.sendArgs
  errCode := fun h => nomatch h

/-- The row of every event keeps the invariant. -/
theorem State.Inv.eventStep {t : State} {i : Instr} (hi : s.Inv) (h : EventStep s i t) : t.Inv := by
  cases h with
  | reset cfg => exact hi.reopen cfg
  | rxByte hr h => exact hi.parserStep h
  | send hr hm => exact hi.acceptSend hm
  | sendBadLength hr hm => exact hi.withReport (r := { err := .sendLength, rpt := .sendRejected }) (by simp)
  | messageWritten hf hp =>
    have hx : s.rtxp = false := hi.rtxp_of_phase_ne (by rw [hp]; decide)
    exact { hi.begin with
      rtxpPhase := fun h => (Bool.eq_false_iff.mp hx h).elim
      outFrame := fun _ => hi.outFrame (State.inFlight_writingMessage hp) }
  | ackWritten hf hp hx =>
    exact { hi.begin with
      rtxpPhase := fun h => (Bool.eq_false_iff.mp hx h).elim
      outFrame := fun hm => by simp [State.inFlight, hx] at hm }
  | retransmit hf hp hx =>
    exact { hi.begin with
      rtxpPhase := fun h => nomatch h
      outFrame := fun _ => hi.outFrame (State.inFlight_iff.mpr (.inr (.inr hx))) }
  | timeout hf hp hr => exact hi.begin.queueAgain hp hr .needsWrite
  | timeoutLimit hf hp hr => exact hi.begin.exceedLimit
  | xportErr hf => exact hi.begin.enterFatal .transportError (by decide) (by decide)
  | ignored _ => exact hi.begin

theorem State.Inv.fetch {u : State} {e : Event} (hi : s.Inv) (h : s.fetch = some (e, u)) : u.Inv := by
  obtain ⟨p, d, rfl, hp⟩ := State.fetch_update h
  exact hi.withPorts p d hp

end

/-- Settles O42: no register is constrained in the reset state, and its report carries no error. -/
theorem invHoldsAtReset : Obligations.InvHoldsAtReset where
  rxbufWf := Memory.wf_nil _
  outbufWf := Memory.wf_nil _
  body := fun h => nomatch h
  retryMax := Nat.zero_le _
  rtxpPhase := fun h => nomatch h
  outFrame := fun h => nomatch h
  fatalIff := by decide
  liveView := fun _ hv => nomatch hv
  sendArgs := fun _ hm => nomatch hm
  errCode := fun h => nomatch h

/-- Settles O43: taking the event off its port keeps the invariant, and so does its row. -/
theorem invKeptByStep : Obligations.InvKeptByStep := by
  intro s t hi h
  obtain ⟨-, rfl⟩ | ⟨e, u, i, hf, -, hstep⟩ := step_event h
  · exact hi
  · exact (hi.fetch hf).eventStep hstep

/-! ### Every step answers -/

theorem exec_decodeTxDone_answers (u : State) :
    ∃ t, exec (decodeTxDone u.fatal u.phase u.rtxp) u = .next t := by
  cases hf : u.fatal with
  | true => exact ⟨_, exec_anyEventWhileFatal hf .txDone⟩
  | false =>
    cases hp : u.phase with
    | readingFrame => exact ⟨_, exec_txDoneSpurious (State.rxReady_of_readingFrame hf hp)⟩
    | awaitingAck => exact ⟨_, exec_txDoneSpurious (State.rxReady_of_awaitingAck hf hp)⟩
    | writingMessage => exact ⟨_, exec_txDoneWritingMessage hf hp⟩
    | writingAck =>
      cases hx : u.rtxp with
      | false => exact ⟨_, exec_txDoneWritingAck hf hp hx⟩
      | true => exact ⟨_, exec_txDoneWritingAckRetransmit hf hp hx⟩

theorem exec_decodeTimeout_answers (u : State) :
    ∃ t, exec (decodeTimeout u.fatal u.phase u.retriesLeft) u = .next t := by
  cases hf : u.fatal with
  | true => exact ⟨_, exec_anyEventWhileFatal hf .timeout⟩
  | false =>
    cases hp : u.phase with
    | readingFrame => exact ⟨_, exec_timeoutStale hf (by rw [hp]; decide)⟩
    | writingMessage => exact ⟨_, exec_timeoutStale hf (by rw [hp]; decide)⟩
    | writingAck => exact ⟨_, exec_timeoutStale hf (by rw [hp]; decide)⟩
    | awaitingAck =>
      cases hr : u.retriesLeft with
      | true => exact ⟨_, exec_timeoutAwaitingAck hf hp (State.retriesLeft_iff.mp hr)⟩
      | false => exact ⟨_, exec_timeoutRetryLimit hf hp (State.retriesLeft_eq_false_iff.mp hr)⟩

/-- A byte is received in every state of the invariant that has `rx_ready = 1`. -/
theorem State.Inv.exec_rxByte_answers {s : State} (hi : s.Inv) (hr : s.rxReady = true) (b : Byte) :
    ∃ t, exec (.rxByte b) s = .next t :=
  execRxByte_answers b hr fun hp =>
    have ⟨hlt, bs, hbs, _⟩ := hi.body hp
    ⟨hlt, bs, hbs⟩

theorem State.send_mem_of_fetch {s u : State} {m : List Byte} (h : s.fetch = some (.send m, u)) :
    m ∈ s.ports.send := by
  obtain ⟨v, d, hv, -⟩ := State.fetch_some h
  obtain ⟨rest, hp, -⟩ : ∃ rest, s.ports.send = m :: rest ∧ s.sendReady = true ∧
      v = { s with ports := { s.ports with send := rest } } := by
    simpa using State.mem_offers hv
  exact hp ▸ List.mem_cons_self

/-- A send request that can be made decodes to its row, which accepts or refuses it. -/
theorem exec_decodeSend_answers {u : State} {m : List Byte} (hr : u.sendReady = true)
    (hm : m.length ≤ 255) : ∃ i t, decodeSend m = .ok i ∧ exec i u = .next t := by
  obtain ⟨i, hd⟩ := decodeSend_ok_iff.mpr hm
  refine ⟨i, ?_⟩
  unfold decodeSend at hd
  split_ifs at hd with hl hb <;> cases hd
  · exact ⟨_, by simp [decodeSend, hl], exec_send hr hl⟩
  · exact ⟨_, by simp [decodeSend, hl, hb], exec_sendBadLength hr hb⟩

/-- The event taken decodes to a row that answers. -/
theorem State.Inv.fetched_answers {s u : State} {e : Event} (hi : s.Inv) (h : s.fetch = some (e, u)) :
    ∃ i t, decodeEvent (u.ctx .ev) e = .ok i ∧ exec i u = .next t := by
  cases e with
  | reset cfg => exact ⟨_, _, rfl, exec_reset cfg u⟩
  | rxByte b =>
    obtain ⟨t, ht⟩ := (hi.fetch h).exec_rxByte_answers (State.rxReady_of_fetch h) b
    exact ⟨_, t, rfl, ht⟩
  | send m =>
    exact exec_decodeSend_answers (State.sendReady_of_fetch h)
      (hi.sendArgs m (State.send_mem_of_fetch h))
  | txDone =>
    obtain ⟨t, ht⟩ := exec_decodeTxDone_answers u
    exact ⟨_, t, rfl, ht⟩
  | timeout =>
    obtain ⟨t, ht⟩ := exec_decodeTimeout_answers u
    exact ⟨_, t, rfl, ht⟩
  | xportErr =>
    cases hf : u.fatal with
    | true => exact ⟨_, _, by simp [decodeEvent, State.ctx, hf], exec_anyEventWhileFatal hf .xportErr⟩
    | false => exact ⟨_, _, by simp [decodeEvent, State.ctx, hf], exec_xportErr hf⟩

/-- Settles O44: an idle step answers the same state, and an event that is taken has a row that answers. -/
theorem stepAlwaysAnswersNext : Obligations.StepAlwaysAnswersNext := by
  intro s hi
  match hf : s.fetch with
  | none => exact ⟨s, by simp [step, hf]⟩
  | some (e, u) =>
    obtain ⟨i, t, hd, ht⟩ := hi.fetched_answers hf
    exact ⟨t, (step_of_fetch hf ((decode_event _ _ rfl).trans hd)).trans ht⟩

/-! ### The parser's table -/

/-- The table of `40_frame_parser.md` R110: the next parser state and the frame that the byte completes. -/
def State.parserEntry (s : State) (b : Byte) : Pst × FrameKind :=
  match s.pst with
  | .idle =>
    if b = 0x01 then (.len, .none)
    else if b = 0x06 then (.idle, .ack)
    else if b = 0x15 then (.idle, .nack)
    else if b = 0x18 then (.idle, .can)
    else (.idle, .none)
  | .len => if b = 0 then (.idle, .none) else (.body, .none)
  | .body =>
    if s.cnt.toNat + 1 < s.len.toNat then (.body, .none)
    else if b = s.csum then (.idle, .data)
    else (.idle, .none)

theorem State.parserEntry_of_unknownTag {s : State} {b : Byte} (hp : s.pst = .idle)
    (hb : isFrameTag b = false) : s.parserEntry b = (.idle, .none) := by
  obtain ⟨h1, h6, h15, h18⟩ := isFrameTag_eq_false_iff.mp hb
  simp only [State.parserEntry, hp, if_neg h1, if_neg h6, if_neg h15, if_neg h18]

theorem State.parserEntry_of_nonzeroLen {s : State} {b : Byte} (hp : s.pst = .len) (hb : b ≠ 0) :
    s.parserEntry b = (.body, .none) := by
  simp only [State.parserEntry, hp, if_neg hb]

theorem ParserStep.entry {s t : State} {b : Byte} (h : ParserStep s b t) :
    (t.pst, t.report.frameKind) = s.parserEntry b := by
  cases h with
  | sof hp hb => simp [State.parserEntry, hp, hb]
  | control k t hp hb h =>
    rw [h.pst_eq, h.frameKind_eq]
    rcases hb with ⟨rfl, rfl⟩ | ⟨rfl, rfl⟩ | ⟨rfl, rfl⟩ <;>
      simp [State.parserEntry, State.afterControl, State.completeFrame, hp]
  | ftUnknown hp hb =>
    rw [State.parserEntry_of_unknownTag hp hb, ← hp]
    rfl
  | lenNonzero hp hb =>
    rw [State.parserEntry_of_nonzeroLen hp hb]
    rfl
  | lenZero hp hb => simp [State.parserEntry, State.consume, State.raise, hp, hb]
  | bodyByte hp hc => simp [State.parserEntry, hp, hc]
  | checksumOk msg t hp hc hb hm h =>
    rw [h.pst_eq, h.frameKind_eq]
    simp [State.parserEntry, State.afterData, hp, hc, hb]
  | checksumBad hp hc hb => simp [State.parserEntry, State.consume, State.raise, hp, hc, hb]

/-- Settles O14: the byte is received, and what it does is read off the parser's table. -/
theorem rxByteTable : Obligations.RxByteTable := by
  intro s b hi hr
  obtain ⟨t, ht⟩ := hi.exec_rxByte_answers hr b
  have hentry := (execRxByte_next hr ht).entry
  have hread : ∀ {p k}, s.parserEntry b = (p, k) → t.pst = p ∧ t.report.frameKind = k := fun he => by
    simpa using hentry.trans he
  refine ⟨t, ht, fun hp hb => hread ?_, fun hp hb => hread ?_, fun hp hb => hread ?_,
    fun hp hb => hread ?_, fun hp hb => hread ?_, fun hp hb => hread ?_, fun hp hb => hread ?_,
    fun hp hc => hread ?_, fun hp hc hb => hread ?_, fun hp hc hb => hread ?_⟩
  case refine_5 => exact State.parserEntry_of_unknownTag hp hb
  case refine_6 => exact State.parserEntry_of_nonzeroLen hp hb
  case refine_8 => simp [State.parserEntry, hp, show s.cnt.toNat + 1 < s.len.toNat by omega]
  case refine_9 | refine_10 =>
    have := (hi.body hp).1
    simp [State.parserEntry, hp, hb, show ¬ s.cnt.toNat + 1 < s.len.toNat by omega]
  all_goals simp [State.parserEntry, hp, hb]

end Sys2Proof.Machine
end

section
/-! PROOFS. Every row of the table, by format: where it is selected (`30_encoding.md` R102), where it stops
(logs 5, 11 and 14), and, once, what it can do where it answers, with the frame of `10_state.md` section 8.
-/

namespace Sys2Proof

/-- Only the decoder's formats look at the tables, so the round trip of the other rows needs no baseline. -/
theorem decode_withRom {c : Ctx} (h : Machine.readsFirst c.fmt = false) (rom : Rom) (x : Input) :
    decode { c with rom := rom } x = decode c x := by
  cases x with
  | event code arg => cases hf : c.fmt <;> simp only [decode, hf]; rfl
  | bytes bs =>
    cases hf : c.fmt <;> simp only [decode, hf]
    case mt | rq | rs | au => rw [hf] at h; cases h

theorem decode_encode_of_admits {c : Ctx} {i : Instr} (hread : Machine.readsFirst i.format = false)
    (hw : i.wellFormed = true) (hf : c.fmt = i.format) (ha : c.admits i = true) :
    decode c i.encode = .ok i := by
  rw [← decode_withRom (hf ▸ hread) Rom.baseline]
  exact decodeEncodeAgree i _ hw hf rfl (by cases i <;> exact ha)

end Sys2Proof

namespace Sys2Proof.Machine

/-! ### Where a row is selected -/

theorem selected_of_whenSelected {c : Bool} {r : Result} (h : whenSelected c r ≠ .refused .notSelected) :
    c = true := by
  cases c with
  | true => rfl
  | false => exact absurd rfl h

section
variable {s : State} {i : Instr}

theorem selected_of_receive {b : Byte} {c : Bool} {r : Result} (hr : s.rxReady = true)
    (h : s.receive b c r ≠ .refused .notSelected) : c = true :=
  selected_of_whenSelected (by rwa [State.receive_ready hr] at h)

/-- A parser row that is not refused is one that the parser state's format decodes its byte to. -/
theorem decode_of_parserRow (hi : i.format = .ft ∨ i.format = .lenb ∨ i.format = .bodyb)
    (hr : s.rxReady = true) (h : exec i s ≠ .refused .notSelected) :
    decode (s.ctx (formatOf s.pst)) i.encode = .ok i := by
  suffices hsel : i.wellFormed = true ∧ formatOf s.pst = i.format ∧
      (s.ctx (formatOf s.pst)).admits i = true by
    obtain ⟨hw, hf, ha⟩ := hsel
    exact decode_encode_of_admits (by rcases hi with hi | hi | hi <;> rw [hi] <;> rfl) hw hf ha
  cases i
  case sof | ack | nack | can =>
    have hp : s.pst = .idle := by simpa using selected_of_receive hr h
    exact ⟨rfl, by rw [hp]; rfl, rfl⟩
  case ftUnknown b =>
    obtain ⟨hp, hb⟩ : s.pst = .idle ∧ isFrameTag b = false := by simpa using selected_of_receive hr h
    exact ⟨by simp [Instr.wellFormed, hb], by rw [hp]; rfl, rfl⟩
  case lenNonzero b =>
    obtain ⟨hp, hb⟩ := Bool.and_eq_true_iff.mp (selected_of_receive hr h)
    exact ⟨hb, by rw [eq_of_beq hp]; rfl, rfl⟩
  case lenZero =>
    have hp : s.pst = .len := by simpa using selected_of_receive hr h
    exact ⟨rfl, by rw [hp]; rfl, rfl⟩
  case bodyByte b =>
    obtain ⟨hp, hc⟩ := Bool.and_eq_true_iff.mp (selected_of_receive hr h)
    exact ⟨rfl, by rw [eq_of_beq hp]; rfl, hc⟩
  case checksumOk b | checksumBad b =>
    obtain ⟨hp, hb⟩ := Bool.and_eq_true_iff.mp (selected_of_receive hr h)
    obtain ⟨hp, hc⟩ := Bool.and_eq_true_iff.mp hp
    exact ⟨rfl, by rw [eq_of_beq hp]; rfl, Bool.and_eq_true_iff.mpr ⟨hc, hb⟩⟩
  all_goals rcases hi with hi | hi | hi <;> cases hi

/-- An event row that is not refused is the one its event decodes to. -/
theorem decode_of_eventRow (hi : i.format = .ev) (h : exec i s ≠ .refused .notSelected) :
    decode (s.ctx .ev) i.encode = .ok i := by
  suffices hsel : i.wellFormed = true ∧ (s.ctx .ev).admits i = true from
    decode_encode_of_admits (by rw [hi]; rfl) hsel.1 hi.symm hsel.2
  cases i
  case reset | rxByte => exact ⟨rfl, rfl⟩
  case send | sendBadLength => exact ⟨selected_of_whenSelected h, rfl⟩
  case txDoneWritingMessage | txDoneWritingAck | txDoneWritingAckRetransmit | timeoutAwaitingAck |
      timeoutRetryLimit | timeoutStale | xportErr | anyEventWhileFatal =>
    exact ⟨rfl, selected_of_whenSelected h⟩
  case txDoneSpurious =>
    have hc := selected_of_whenSelected h
    rw [State.inPhase, State.inPhase, ← Bool.and_or_distrib_left] at hc
    exact ⟨rfl, hc⟩
  all_goals cases hi

/-- A handshake row that is not refused is the one that the completed frame's kind decodes to. -/
theorem decode_of_handshakeRow (hi : i.format = .hs) (h : exec i s ≠ .refused .notSelected) :
    decode (s.ctx .hs) (.bytes [FrameKind.byte s.report.frameKind]) = .ok i := by
  suffices hsel : i.wellFormed = true ∧ (s.ctx .hs).admits i = true ∧
      i.encode = .bytes [FrameKind.byte s.report.frameKind] by
    obtain ⟨hw, ha, henc⟩ := hsel
    exact henc ▸ decode_encode_of_admits (by rw [hi]; rfl) hw hi.symm ha
  cases i
  case dataInReadingFrame | ackInReadingFrame | nackInReadingFrame | canInReadingFrame |
      ackInAwaitingAck =>
    obtain ⟨hp, hk⟩ := Bool.and_eq_true_iff.mp (selected_of_whenSelected h)
    exact ⟨rfl, hp, by rw [eq_of_beq hk]; rfl⟩
  case nackInAwaitingAck | canInAwaitingAck | dataInAwaitingAck | dataInAwaitingAckLimit =>
    obtain ⟨hc, hr⟩ := Bool.and_eq_true_iff.mp (selected_of_whenSelected h)
    obtain ⟨hp, hk⟩ := Bool.and_eq_true_iff.mp hc
    exact ⟨rfl, Bool.and_eq_true_iff.mpr ⟨hp, hr⟩, by rw [eq_of_beq hk]; rfl⟩
  case retryLimit k =>
    obtain ⟨hc, hr⟩ := Bool.and_eq_true_iff.mp (selected_of_whenSelected h)
    obtain ⟨hkind, hc⟩ := Bool.and_eq_true_iff.mp hc
    obtain ⟨hp, hk⟩ := Bool.and_eq_true_iff.mp hc
    exact ⟨hkind, Bool.and_eq_true_iff.mpr ⟨hp, hr⟩, by rw [eq_of_beq hk]; rfl⟩
  case nonFrame =>
    have hc := selected_of_whenSelected h
    simp only [Bool.or_eq_true, State.takesFrame_iff, ← and_or_left, ← or_and_right] at hc
    obtain ⟨hf, hp, hk⟩ : s.fatal = false ∧ (s.phase = .readingFrame ∨ s.phase = .awaitingAck) ∧
        s.report.frameKind = .none := by tauto
    exact ⟨rfl, by simpa [Ctx.admits, State.ctx, hf] using hp, by rw [hk]; rfl⟩
  all_goals cases hi

end

/-! ### The descent of the decoder, row by row -/

section
variable {rom : Rom} {msg : List Byte}

/-- A row of the decoder that applies to MSG is one of those its descent reaches. -/
theorem mem_levelRows_of_rowReached {i : Instr} (hlen : msg.length ≤ 254)
    (h : rowReached rom msg i = true) : i ∈ levelRows rom msg := by
  cases i
  case request =>
    obtain ⟨t, u, rest, rfl, ht⟩ := reachesRequest_iff.mp h
    simp [levelRows, decodeMt, ht]
  case response =>
    obtain ⟨t, u, rest, rfl, ht⟩ := reachesResponse_iff.mp h
    simp [levelRows, decodeMt, ht]
  case mtUnknown t =>
    simp only [rowReached, Bool.and_eq_true, decide_eq_true_eq, beq_iff_eq,
      Option.isNone_iff_eq_none] at h
    obtain ⟨⟨hlen, h0⟩, ht⟩ := h
    match msg with
    | t :: u :: rest => cases h0; simp [levelRows, decodeMt, ht]
  case applicationUpdate =>
    obtain ⟨t, u, rest, rfl, ht, hu⟩ := reachesAppUpdate_iff.mp h
    simp [levelRows, decodeMt, decodeRq, ht, hu]
  case rqUnknown f =>
    simp only [rowReached, Bool.and_eq_true, beq_iff_eq, Option.isNone_iff_eq_none] at h
    obtain ⟨⟨hreq, h1⟩, hf⟩ := h
    obtain ⟨t, u, rest, rfl, ht⟩ := reachesRequest_iff.mp hreq
    cases h1
    simp [levelRows, decodeMt, decodeRq, ht, hf]
  case rsUnknown r =>
    simp only [rowReached, Bool.and_eq_true, beq_iff_eq] at h
    obtain ⟨⟨hrsp, h1⟩, -⟩ := h
    obtain ⟨t, u, rest, rfl, ht⟩ := reachesResponse_iff.mp hrsp
    cases h1
    simp [levelRows, decodeMt, decodeRs_cons, ht]
  case infoReceived =>
    obtain ⟨t, u, v, rest, rfl, ht, hu, hv⟩ := reachesInfo_iff.mp h
    simp [levelRows, decodeMt, decodeRq, decodeAu, ht, hu, hv]
  case auUnknown t =>
    simp only [rowReached, Bool.and_eq_true, beq_iff_eq, Option.isNone_iff_eq_none] at h
    obtain ⟨⟨happ, h2⟩, hau⟩ := h
    obtain ⟨t', u, rest, rfl, ht, hu⟩ := reachesAppUpdate_iff.mp happ
    match rest with
    | v :: rest => cases h2; simp [levelRows, decodeMt, decodeRq, decodeAu, ht, hu, hau]
  case infoReceivedOperands id rest =>
    simp only [rowReached, Bool.and_eq_true, beq_iff_eq] at h
    obtain ⟨hinfo, hdrop⟩ := h
    obtain ⟨t, u, v, rest', rfl, ht, hu, hv⟩ := reachesInfo_iff.mp hinfo
    obtain rfl : rest' = id :: rest := hdrop
    simp only [List.length_cons] at hlen
    have hrest : rest.length ≤ 250 := by omega
    simp [levelRows, decodeMt, decodeRq, decodeAu, decodeIr, ht, hu, hv, hrest]
  case shortMessage =>
    rcases decodeMessage_eq_shortMessage_iff.mp (beq_iff_eq.mp h) with hn | ⟨hn, ha⟩ | ⟨hn, ha⟩
    · simp [levelRows, decodeMt, hn]
    · obtain ⟨t, u, rest, rfl, ht, hu⟩ := reachesAppUpdate_iff.mp ha
      obtain rfl : rest = [] := by simpa using hn
      simp [levelRows, decodeMt, decodeRq, decodeAu, ht, hu]
    · obtain ⟨t, u, v, rest, rfl, ht, hu, hv⟩ := reachesInfo_iff.mp ha
      obtain rfl : rest = [] := by simpa using hn
      simp [levelRows, decodeMt, decodeRq, decodeAu, decodeIr, ht, hu, hv]
  all_goals cases h

end

section
variable {s : State} {i : Instr}

theorem State.onMessage_not_data (hk : s.report.frameKind ≠ .data) (k : List Byte → Result) :
    s.onMessage k = .refused .notSelected := by
  rw [State.onMessage, beq_false_of_ne hk, whenSelected_false]

theorem State.onMessage_data (hk : s.report.frameKind = .data) (k : List Byte → Result) :
    s.onMessage k = orFault s.message k := by
  simp [State.onMessage, hk]

/-- MSG has at most 254 bytes (`30_encoding.md` R84). -/
theorem State.message_length_le {msg : List Byte} (hm : s.message = .ok msg) : msg.length ≤ 254 := by
  have := State.message_length hm
  have := s.len.isLt
  omega

theorem exec_decoderRow_of_not_mem {msg : List Byte} (hi : isDecoderRow i = true)
    (hk : s.report.frameKind = .data) (hm : s.message = .ok msg) (h : i ∉ levelRows s.rom msg) :
    exec i s = .refused .notSelected := by
  have hno : rowReached s.rom msg i = false := Bool.eq_false_iff.mpr fun hr =>
    h (mem_levelRows_of_rowReached (State.message_length_le hm) hr)
  rw [exec_decoderRow hi, State.onMessage_data hk, hm, orFault_ok, hno, whenSelected_false]

theorem exec_rxByte_bodyOverrun (hr : s.rxReady = true) (hp : s.pst = .body)
    (hc : s.len.toNat ≤ s.cnt.toNat) (b : Byte) :
    exec (.rxByte b) s = .refused (.undecodable .bodyOverrun) := by
  simp [exec, execRxByte, hr, hp, State.beforeLast, State.atLast,
    show ¬ s.cnt.toNat + 1 < s.len.toNat by omega, show s.cnt.toNat + 1 ≠ s.len.toNat by omega]

theorem State.message_error (hl : s.len ≠ 0)
    (hv : Memory.view s.rxbuf 0 (s.len.toNat - 1) = none) : s.message = .error (.undefinedCell 0) := by
  simp only [State.message, if_neg hl, viewOrFault, hv]

/-- CHECKSUM_OK reads MSG, so it faults where a byte of MSG was never stored. -/
theorem exec_checksumOk_fault {b : Byte} (hr : s.rxReady = true) (hp : s.pst = .body)
    (hc : s.cnt.toNat + 1 = s.len.toNat) (hb : b = s.csum)
    (hm : Memory.view s.rxbuf 0 s.cnt.toNat = none) :
    exec (.checksumOk b) s = .fault (.undefinedCell 0) := by
  have hlen : s.len ≠ 0 := by bv_omega
  have hview : Memory.view (Memory.write s.rxbuf s.cnt.toNat b) 0 (s.len.toNat - 1) = none := by
    rw [← hc, Nat.add_sub_cancel, Memory.view_write_outside _ _ (.inr (Nat.zero_add _).le), hm]
  have hmsg : ((s.afterBody b).completeFrame .data (frameBytes s.len)).message =
      .error (.undefinedCell 0) := State.message_error hlen hview
  calc exec (.checksumOk b) s
      = orFault (s.endBody b) fun t =>
          (t.completeFrame .data (frameBytes s.len)).decodeStage dispatchFrame :=
        State.receive_selected hr (by simp [hp, State.atLast, hc, hb])
    _ = .fault (.undefinedCell 0) := by
        rw [State.endBody_eq b hc, orFault_ok, State.decodeStage, hmsg, orFault_error]

end

/-- Settles O54: a row that is not refused is one that its format decodes, or that the descent reaches. -/
theorem rowsStopWhereNotSelected : Obligations.RowsStopWhereNotSelected := by
  intro i s
  refine ⟨fun hi hr hd => ?parser, fun hi hk => ?noFrame, fun msg hi hk hm hn => ?level,
    fun f hi hk hm => ?noMessage, fun hi hd => ?handshake, fun hi hd => ?event, fun m hm => ?encodeData,
    fun hp => ?encodeAck, fun b hr hp hc => exec_rxByte_bodyOverrun hr hp hc b,
    fun b hr hp hc hb hm => exec_checksumOk_fault hr hp hc hb hm⟩
  case parser => exact by_contra fun h => hd (decode_of_parserRow hi hr h)
  case noFrame => rw [exec_decoderRow hi, State.onMessage_not_data hk]
  case level => exact exec_decoderRow_of_not_mem hi hk hm hn
  case noMessage => rw [exec_decoderRow hi, State.onMessage_data hk, hm, orFault_error]
  case handshake => exact by_contra fun h => hd (decode_of_handshakeRow hi h)
  case event => exact by_contra fun h => hd (decode_of_eventRow hi h)
  case encodeData =>
    refine by_contra fun h => ?_
    obtain ⟨hr, hlegal⟩ := Bool.and_eq_true_iff.mp (selected_of_whenSelected h)
    have := legalLength_iff.mp hlegal
    rcases hm with hm | hm | hm
    · rw [hm] at hr; cases hr
    all_goals omega
  case encodeAck =>
    refine by_contra fun h => ?_
    obtain ⟨hf, hph⟩ := State.inPhase_iff.mp (selected_of_whenSelected h)
    rcases hp with hp | hp
    · rw [hf] at hp; cases hp
    · exact hp hph

/-! ### The outgoing frame's rows -/

theorem exec_encodeData {s : State} {m : List Byte} (hr : s.sendReady = true) (hm : legalLength m = true) :
    exec (.encodeData m) s = .next (s.loadFrame m) := by
  calc exec (.encodeData m) s
      = orFault (s.writeOut (encodeFrame m)) .next :=
        whenSelected_of (Bool.and_eq_true_iff.mpr ⟨hr, hm⟩)
    _ = .next (s.loadFrame m) := by rw [State.writeOut_encodeFrame s hm, orFault_ok]

/-- Settles O37: ENCODE_DATA loads the frame as SEND does, and WritingAck presents the byte 06. -/
theorem encodeRowsResult : Obligations.EncodeRowsResult := by
  constructor
  · intro s m hr hlo hhi
    have hm : legalLength m = true := legalLength_iff.mpr ⟨hlo, hhi⟩
    exact ⟨s.loadFrame m, exec_encodeData hr hm, storedFrame_writeList s.outbuf m,
      State.loadFrame_outlen_toNat s hm, rfl⟩
  · intro s hf hp
    exact ⟨whenSelected_of (State.inPhase_iff.mpr ⟨hf, hp⟩), State.txValid_iff.mpr ⟨hf, .inr hp⟩,
      State.txBytes_writingAck hf hp⟩

/-! ### What a row can do where it answers -/

/-- The effects of the rows of the table, each as the shared operation that it runs. -/
inductive RowEffect (s : State) (i : Instr) : State → Prop
  | held (p : Ports) : RowEffect s i { s with ports := p }
  | parser {b : Byte} {t : State} (hr : s.rxReady = true) (h : ParserStep s b t) : RowEffect s i t
  | decoder (r : DecodeResult) : RowEffect s i (s.reportResult r)
  | handshake {t : State} (hf : s.fatal = false) (h : HandshakeOf s t) : RowEffect s i t
  | event {t : State} (h : EventStep s i t) : RowEffect s i t
  | load {m : List Byte} (hr : s.sendReady = true) : RowEffect s i (s.loadFrame m)
  | identity : RowEffect s i s

section
variable {s t : State} {i : Instr}

/-- A parser row that answers is RX_BYTE on its byte, or holds it. -/
theorem exec_parserRow_next (hi : i.format = .ft ∨ i.format = .lenb ∨ i.format = .bodyb)
    (h : exec i s = .next t) :
    (∃ b, t = s.holdByte b) ∨ (s.rxReady = true ∧ ∃ b, ParserStep s b t) := by
  cases hr : s.rxReady with
  | false =>
    obtain ⟨b, c, r, hx⟩ : ∃ b c r, exec i s = s.receive b c r := by
      cases i
      case sof | ack | nack | can | ftUnknown | lenNonzero | lenZero | bodyByte | checksumOk |
          checksumBad => exact ⟨_, _, _, rfl⟩
      all_goals rcases hi with hi | hi | hi <;> cases hi
    rw [hx, State.receive_held hr] at h
    cases h
    exact .inl ⟨b, rfl⟩
  | true =>
    have hd := decode_of_parserRow hi hr (by rw [h]; simp)
    obtain ⟨b, henc⟩ : ∃ b, i.encode = .bytes [b] := by
      cases i
      case sof | ack | nack | can | ftUnknown | lenNonzero | lenZero | bodyByte | checksumOk |
          checksumBad => exact ⟨_, rfl⟩
      all_goals rcases hi with hi | hi | hi <;> cases hi
    have hx : exec (.rxByte b) s = exec i s := rxByteRunsParserRow s b i hr (henc ▸ hd)
    exact .inr ⟨rfl, b, execRxByte_next hr (hx.trans h)⟩

/-- The handshake's row is the one that the dispatch on the completed frame runs: the decoder's table and the
dispatch's agree entry by entry. -/
theorem dispatchFrame_of_decodeHs (h : decodeHs s.phase s.retriesLeft s.report.frameKind = .ok i) :
    dispatchFrame s = exec i s := by
  cases hp : s.phase <;> cases hk : s.report.frameKind <;> cases hr : s.retriesLeft <;>
    simp [decodeHs, hp, hk, hr] at h <;> subst h <;> simp [dispatchFrame, exec, hp, hk, hr]

theorem frameKindOfCode_byte (k : FrameKind) : frameKindOfCode k.byte = some k := by
  cases k <;> rfl

theorem decodeHs_of_decode {c : Ctx} {k : FrameKind} (hf : c.fmt = .hs)
    (h : decode c (.bytes [k.byte]) = .ok i) : decodeHs c.phase c.retriesLeft k = .ok i := by
  simp only [decode, hf, oneByte, frameKindOfCode_byte] at h
  split at h
  · cases h
  · exact h

theorem exec_handshakeRow_next (hi : i.format = .hs) (h : exec i s = .next t) :
    s.fatal = false ∧ (HandshakeOf s t ∨ t = s) := by
  have hd := decodeHs_of_decode rfl (decode_of_handshakeRow hi (s := s) (by rw [h]; simp))
  have hx : dispatchFrame s = .next t := (dispatchFrame_of_decodeHs hd).trans h
  obtain ⟨hf, hcases⟩ := dispatchFrame_next hx
  refine ⟨hf, ?_⟩
  by_cases hk : s.report.frameKind = .none
  · obtain ⟨-, rfl⟩ : (s.phase = .readingFrame ∨ s.phase = .awaitingAck) ∧ t = s := by
      simpa [hk] using hcases
    exact .inr rfl
  · exact .inl (handshakeOf_dispatchFrame hx hk)

/-- An event row that answers is enabled, or holds its byte or request. -/
theorem exec_eventRow_next (hi : i.format = .ev) (h : exec i s = .next t) :
    (∃ b, t = s.holdByte b) ∨ (∃ m, t = s.holdSend m) ∨ EventStep s i t := by
  by_cases hrx : ∃ b, i = .rxByte b ∧ s.rxReady = false
  · obtain ⟨b, rfl, hr⟩ := hrx
    cases (exec_rxByte_held hr b).symm.trans h
    exact .inl ⟨b, rfl⟩
  by_cases hsend : ∃ m, (i = .send m ∨ i = .sendBadLength m) ∧ s.sendReady = false
  · obtain ⟨m, rfl | rfl, hr⟩ := hsend
    · cases (exec_send_held hr (whenSelected_next.mp h).1).symm.trans h
      exact .inr (.inl ⟨m, rfl⟩)
    · cases (exec_sendBadLength_held hr (whenSelected_next.mp h).1).symm.trans h
      exact .inr (.inl ⟨m, rfl⟩)
  · refine .inr (.inr (exec_event_next hi (fun b hb => ?_) (fun m hm => ?_) h))
    · exact (Bool.not_eq_false _).mp fun hr => hrx ⟨b, hb, hr⟩
    · exact (Bool.not_eq_false _).mp fun hr => hsend ⟨m, hm, hr⟩

theorem rowEffect_of_parserRow (hi : i.format = .ft ∨ i.format = .lenb ∨ i.format = .bodyb)
    (h : exec i s = .next t) : RowEffect s i t := by
  obtain ⟨b, rfl⟩ | ⟨hr, b, hstep⟩ := exec_parserRow_next hi h
  · exact .held _
  · exact .parser hr hstep

theorem rowEffect_of_decoderRow (hi : isDecoderRow i = true) (h : exec i s = .next t) :
    RowEffect s i t := by
  obtain ⟨msg, -, rfl⟩ := exec_decoderRow_next hi h
  exact .decoder _

/-- Whatever row of the table answers, its effect is one of the shared ones. -/
theorem exec_next (h : exec i s = .next t) : RowEffect s i t := by
  cases hfmt : i.format with
  | ft => exact rowEffect_of_parserRow (.inl hfmt) h
  | lenb => exact rowEffect_of_parserRow (.inr (.inl hfmt)) h
  | bodyb => exact rowEffect_of_parserRow (.inr (.inr hfmt)) h
  | mt | rq | rs | au | ir => exact rowEffect_of_decoderRow (by rw [isDecoderRow, hfmt]) h
  | hs =>
    obtain ⟨hf, hstep | rfl⟩ := exec_handshakeRow_next hfmt h
    · exact .handshake hf hstep
    · exact .identity
  | ev =>
    obtain ⟨b, rfl⟩ | ⟨m, rfl⟩ | hstep := exec_eventRow_next hfmt h
    · exact .held _
    · exact .held _
    · exact .event hstep
  | txf =>
    cases i
    case encodeData m =>
      obtain ⟨hc, -⟩ := whenSelected_next.mp h
      obtain ⟨hr, hm⟩ := Bool.and_eq_true_iff.mp hc
      cases (exec_encodeData hr hm).symm.trans h
      exact .load hr
    case encodeAck =>
      obtain ⟨-, h⟩ := whenSelected_next.mp h
      cases h
      exact .identity
    all_goals cases hfmt

/-! ### The fatal condition and the configuration -/

/-- While FATAL = 1 the row of an event other than RESET sets the report only. -/
theorem EventStep.eq_begin_of_fatal (hf : s.fatal = true) (hi : ∀ cfg, i ≠ .reset cfg)
    (h : EventStep s i t) : t = s ∨ t = s.begin := by
  cases h with
  | reset cfg => exact absurd rfl (hi cfg)
  | rxByte hr _ => rw [State.rxReady_of_fatal hf] at hr; cases hr
  | send hr _ | sendBadLength hr _ => rw [State.sendReady_of_fatal hf] at hr; cases hr
  | messageWritten hf' | ackWritten hf' | retransmit hf' | timeout hf' | timeoutLimit hf' | xportErr hf' =>
    rw [hf] at hf'; cases hf'
  | ignored _ => exact .inr rfl

end

/-- Settles O45: of the effects only those of the ports and of the report are left while FATAL = 1. -/
theorem fatalIsSticky : Obligations.FatalIsSticky := by
  intro i s t hf hi h
  cases exec_next h with
  | held p => rfl
  | parser hr _ => rw [State.rxReady_of_fatal hf] at hr; cases hr
  | decoder r => rw [State.reportResult_ports]; exact State.reportResult_eq s r
  | handshake hf' _ => rw [hf] at hf'; cases hf'
  | event hstep => obtain rfl | rfl := hstep.eq_begin_of_fatal hf hi <;> rfl
  | load hr => rw [State.sendReady_of_fatal hf] at hr; cases hr
  | identity => rfl

section
variable {s t : State} {i : Instr}

theorem HandshakeOf.sameConfig {u : State} (h : HandshakeOf u t) : t.rom = u.rom ∧ t.cfg = u.cfg := by
  rw [h.eq_update]; exact ⟨rfl, rfl⟩

theorem ParserStep.sameConfig {b : Byte} (h : ParserStep s b t) : t.rom = s.rom ∧ t.cfg = s.cfg := by
  cases h with
  | control _ _ _ _ h => exact h.sameConfig
  | checksumOk _ _ _ _ _ _ h => exact h.sameConfig
  | _ => exact ⟨rfl, rfl⟩

theorem EventStep.sameConfig (h : EventStep s i t) :
    t.rom = s.rom ∧ ((∀ cfg, i ≠ .reset cfg) → t.cfg = s.cfg) := by
  cases h with
  | reset cfg => exact ⟨rfl, fun hi => absurd rfl (hi cfg)⟩
  | rxByte _ h => exact ⟨h.sameConfig.1, fun _ => h.sameConfig.2⟩
  | _ => exact ⟨rfl, fun _ => rfl⟩

/-- No row writes a table, and only RESET the configuration. -/
theorem exec_sameConfig (h : exec i s = .next t) :
    t.rom = s.rom ∧ ((∀ cfg, i ≠ .reset cfg) → t.cfg = s.cfg) := by
  cases exec_next h with
  | parser _ h => exact ⟨h.sameConfig.1, fun _ => h.sameConfig.2⟩
  | handshake _ h => exact ⟨h.sameConfig.1, fun _ => h.sameConfig.2⟩
  | decoder r => exact ⟨State.reportResult_rom s r, fun _ => State.reportResult_cfg s r⟩
  | event h => exact h.sameConfig
  | _ => exact ⟨rfl, fun _ => rfl⟩

/-! ### The access matrix -/

/-- What a received byte leaves untouched, by the parser state it meets (`10_state.md` R35). -/
theorem ParserStep.access {b : Byte} (h : ParserStep s b t) :
    s.sameOut t ∧
    (s.pst = .idle → t.len = s.len ∧ t.cnt = s.cnt ∧ t.csum = s.csum ∧ t.rxbuf = s.rxbuf) ∧
    (s.pst = .len → t.rxbuf = s.rxbuf ∧ s.sameLink t) ∧
    (s.pst = .body → t.len = s.len) ∧
    (s.pst = .body → s.cnt.toNat + 1 < s.len.toNat → t.pst = s.pst ∧ s.sameLink t) ∧
    (s.pst = .body → s.cnt.toNat + 1 = s.len.toNat → t.csum = s.csum) := by
  cases h with
  | sof hp | ftUnknown hp =>
    simp only [hp, reduceCtorEq, false_imp_iff, and_true, true_imp_iff]
    exact ⟨⟨rfl, rfl⟩, rfl, rfl, rfl, rfl⟩
  | control k t hp hb h =>
    obtain ⟨-, hlen, hcnt, hcsum, hbuf⟩ := h.sameParser
    simp only [hp, reduceCtorEq, false_imp_iff, and_true, true_imp_iff]
    exact ⟨h.sameOut, hlen, hcnt, hcsum, hbuf⟩
  | lenNonzero hp | lenZero hp =>
    simp only [hp, reduceCtorEq, false_imp_iff, and_true, true_and, true_imp_iff]
    exact ⟨⟨rfl, rfl⟩, rfl, rfl, rfl, rfl, rfl, rfl⟩
  | bodyByte hp hc =>
    simp only [hp, hc, hc.ne, reduceCtorEq, false_imp_iff, and_true, true_and, true_imp_iff]
    exact ⟨⟨rfl, rfl⟩, rfl, hp, rfl, rfl, rfl, rfl, rfl⟩
  | checksumOk msg t hp hc hb hm h =>
    obtain ⟨-, hlen, -, hcsum, -⟩ := h.sameParser
    simp only [hp, hc, lt_irrefl, reduceCtorEq, false_imp_iff, true_and, true_imp_iff]
    exact ⟨h.sameOut, hlen, hcsum⟩
  | checksumBad hp hc hb =>
    simp only [hp, hc, lt_irrefl, reduceCtorEq, false_imp_iff, true_and, true_imp_iff]
    exact ⟨⟨rfl, rfl⟩, rfl, rfl⟩

end

/-- Settles O47: each event row writes what its operations write, and a held one writes its port only. -/
theorem accessMatrix : Obligations.AccessMatrix := by
  intro s t
  refine ⟨fun b h => ?rxByte, fun m i hi h => ?send, fun i hi h => ?txDone, fun i hi h => ?timeout,
    fun h => ?xportErr, fun i h => exec_sameConfig h⟩
  case rxByte =>
    cases hr : s.rxReady with
    | true => exact (execRxByte_next hr h).access
    | false =>
      cases (exec_rxByte_held hr b).symm.trans h
      exact ⟨⟨rfl, rfl⟩, fun _ => ⟨rfl, rfl, rfl, rfl⟩, fun _ => ⟨rfl, rfl, rfl, rfl, rfl, rfl⟩,
        fun _ => rfl, fun _ _ => ⟨rfl, rfl, rfl, rfl, rfl, rfl⟩, fun _ _ => rfl⟩
  case send =>
    have hfmt : i.format = .ev := by obtain rfl | rfl := hi <;> rfl
    obtain ⟨b, rfl⟩ | ⟨m', rfl⟩ | hstep := exec_eventRow_next hfmt h
    · exact ⟨⟨rfl, rfl, rfl, rfl, rfl⟩, rfl, rfl⟩
    · exact ⟨⟨rfl, rfl, rfl, rfl, rfl⟩, rfl, rfl⟩
    · obtain rfl | rfl := hi <;> cases hstep <;> exact ⟨⟨rfl, rfl, rfl, rfl, rfl⟩, rfl, rfl⟩
  case txDone =>
    obtain rfl | rfl | rfl | rfl := hi <;> obtain ⟨-, h⟩ := whenSelected_next.mp h <;> cases h <;>
      exact ⟨⟨rfl, rfl, rfl, rfl, rfl⟩, ⟨rfl, rfl⟩, rfl, rfl, rfl⟩
  case timeout =>
    obtain rfl | rfl | rfl := hi <;> obtain ⟨-, h⟩ := whenSelected_next.mp h <;> cases h <;>
      exact ⟨⟨rfl, rfl, rfl, rfl, rfl⟩, ⟨rfl, rfl⟩, rfl⟩
  case xportErr =>
    obtain ⟨-, h⟩ := whenSelected_next.mp h
    cases h
    exact ⟨⟨rfl, rfl, rfl, rfl, rfl⟩, ⟨rfl, rfl⟩, rfl, rfl, rfl⟩

end Sys2Proof.Machine
end

section
/-! PROOFS. Whole frames through the parser (`41_checksum.md` R133, R134, `44_frame_encoder.md` R192): the
state of a Data frame half received, the frame that is accepted and the frame that is rejected, and the
bytes counted (`40_frame_parser.md` R122). -/

namespace Sys2Proof

/-- A frame with one byte of its body changed is a frame whose checksum is wrong (R134 (a) and (b)). -/
theorem encodeFrame_set_corrupts {m : List Byte} {i : Nat} {b : Byte} (hlo : 2 ≤ i)
    (hhi : i < m.length + 3) (hb : (encodeFrame m)[i]? ≠ some b) :
    ∃ m' c, (encodeFrame m).set i b = 0x01 :: lengthByte m :: (m' ++ [c]) ∧
      m'.length = m.length ∧ c ≠ checksum (lengthByte m) m' := by
  obtain ⟨j, rfl⟩ : ∃ j, i = j + 2 := ⟨i - 2, by omega⟩
  by_cases hj : j < m.length
  · refine ⟨m.set j b, checksum (lengthByte m) m, ?_, List.length_set, fun he => hb ?_⟩
    · simp [encodeFrame, List.set_append_left, hj]
    · rw [Nat.add_comm, encodeFrame_getElem?_message hj]
      exact (checksum_set_eq_iff _ b hj).mp he.symm
  · obtain rfl : j = m.length := by omega
    refine ⟨m, b, by simp [encodeFrame], rfl, fun he => hb ?_⟩
    rw [encodeFrame_getElem?_checksum, he]

end Sys2Proof

namespace Sys2Proof.Machine

theorem Memory.writeList_append (mem : Memory) (off : Nat) (bs : List Byte) (b : Byte) :
    Memory.writeList mem off (bs ++ [b]) =
      Memory.write (Memory.writeList mem off bs) (off + bs.length) b := by
  induction bs generalizing mem off with
  | nil => rfl
  | cons x bs ih => simp [Memory.writeList, ih, Nat.add_assoc, Nat.add_comm 1]

/-! ### Feeding bytes -/

theorem State.feed_cons {s t : State} {b : Byte} (h : exec (.rxByte b) s = .next t) (bs : List Byte) :
    State.feed (b :: bs) s = State.feed bs t := by
  simp [State.feed, h]

theorem State.feed_singleton {s t : State} {b : Byte} (h : exec (.rxByte b) s = .next t) :
    State.feed [b] s = .next t :=
  State.feed_cons h []

/-- The state after the tag, the length byte `l` and the body bytes `pre` of a Data frame. -/
def State.inBody (s : State) (l : Byte) (pre : List Byte) : State :=
  { s.beginRx with
    pst := .body, len := l, cnt := BitVec.ofNat 8 pre.length, csum := checksum l pre,
    rxbuf := Memory.writeList s.rxbuf 0 pre }

section
variable {s : State} {l : Byte} {pre : List Byte}

theorem State.inBody_cnt (h : pre.length < l.toNat) : (s.inBody l pre).cnt.toNat = pre.length := by
  have := l.isLt
  simp only [State.inBody, BitVec.toNat_ofNat]
  omega

/-- The body bytes received so far are what RXBUF holds. -/
theorem State.inBody_view (h : pre.length < l.toNat) :
    Memory.view (s.inBody l pre).rxbuf 0 (s.inBody l pre).cnt.toNat = some pre := by
  rw [State.inBody_cnt h]
  exact Memory.view_writeList s.rxbuf 0 pre

theorem exec_rxByte_inBody {b : Byte} (hr : s.rxReady = true) (h : pre.length + 1 < l.toNat) :
    exec (.rxByte b) (s.inBody l pre) = .next (s.inBody l (pre ++ [b])) := by
  have hcnt : (s.inBody l pre).cnt.toNat = pre.length := State.inBody_cnt (by omega)
  have hc : (s.inBody l pre).cnt.toNat + 1 < (s.inBody l pre).len.toNat := by
    rw [hcnt]; exact h
  rw [exec_rxByte_body (s := s.inBody l pre) (i := .bodyByte b) hr rfl (by simp [decodeBodyb, hc]),
    exec_bodyByte (s := s.inBody l pre) hr rfl hc,
    hcnt]
  simp [State.inBody, State.beginRx, Memory.writeList_append, checksum_append, BitVec.ofNat_add]

theorem State.feed_inBody (hr : s.rxReady = true) (bs cs : List Byte)
    (h : pre.length + bs.length < l.toNat) :
    State.feed (bs ++ cs) (s.inBody l pre) = State.feed cs (s.inBody l (pre ++ bs)) := by
  induction bs generalizing pre with
  | nil => simp
  | cons b bs ih =>
    rw [List.length_cons] at h
    rw [List.cons_append, State.feed_cons (exec_rxByte_inBody hr (by omega)),
      ih (by rw [List.length_append, List.length_singleton]; omega), List.append_assoc]
    rfl

/-- The tag and the length byte bring the parser to an empty body. -/
theorem State.feed_header (hr : s.rxReady = true) (hp : s.pst = .idle) (hl : l ≠ 0) (bs : List Byte) :
    State.feed (0x01 :: l :: bs) s = State.feed bs (s.inBody l []) := by
  have htag : exec (.rxByte 0x01) s = .next { s.beginRx with pst := .len } :=
    (exec_rxByte_idle hr hp).trans (exec_sof hr hp)
  have hlen : exec (.rxByte l) { s.beginRx with pst := .len } = .next (s.inBody l []) := by
    rw [exec_rxByte_len (s := { s.beginRx with pst := .len }) hr rfl, decodeLenb, if_neg hl]
    exact exec_lenNonzero hr rfl hl
  rw [State.feed_cons htag, State.feed_cons hlen]

/-- Everything but the last byte of a frame with length byte `l`, whatever its checksum. -/
theorem State.feed_frame {m : List Byte} (hr : s.rxReady = true) (hp : s.pst = .idle)
    (hl : l.toNat = m.length + 1) (c : Byte) :
    State.feed (0x01 :: l :: (m ++ [c])) s = State.feed [c] (s.inBody l m) := by
  have hne : l ≠ 0 := by rintro rfl; simp at hl
  have hlt : ([] : List Byte).length + m.length < l.toNat := by rw [List.length_nil]; omega
  rw [State.feed_header hr hp hne, State.feed_inBody hr m [c] hlt, List.nil_append]

theorem State.inBody_atLast {m : List Byte} (hl : l.toNat = m.length + 1) :
    (s.inBody l m).cnt.toNat + 1 = (s.inBody l m).len.toNat := by
  rw [State.inBody_cnt (by omega)]
  exact hl.symm

/-- The right checksum completes the frame and hands it to the handshake. -/
theorem exec_rxByte_inBody_ok {m : List Byte} (hr : s.rxReady = true) (hl : l.toNat = m.length + 1) :
    exec (.rxByte (checksum l m)) (s.inBody l m) =
      dispatchFrame ((s.inBody l m).afterData (checksum l m) m) := by
  have hc := State.inBody_atLast (s := s) hl
  rw [exec_rxByte_body (s := s.inBody l m) (i := .checksumOk (checksum l m)) hr rfl
    (by rw [decodeBodyb, if_neg (by omega), if_pos hc, if_pos]; rfl)]
  exact exec_checksumOk hr rfl hc rfl (State.inBody_view (by omega))

/-- A wrong checksum ends the frame without the handshake. -/
theorem exec_rxByte_inBody_bad {m : List Byte} {c : Byte} (hr : s.rxReady = true)
    (hl : l.toNat = m.length + 1) (hb : c ≠ checksum l m) :
    exec (.rxByte c) (s.inBody l m) =
      .next ((((s.inBody l m).afterBody c).raise .invalidChecksum .protocolError).consume
        (frameBytes l)) := by
  have hc := State.inBody_atLast (s := s) hl
  rw [exec_rxByte_body (s := s.inBody l m) (i := .checksumBad c) hr rfl
    (by rw [decodeBodyb, if_neg (by omega), if_pos hc, if_neg]; exact hb)]
  exact exec_checksumBad hr rfl hc hb

end

theorem lengthByte_toNat {m : List Byte} (hm : m.length ≤ 254) : (lengthByte m).toNat = m.length + 1 := by
  simp only [lengthByte, BitVec.toNat_ofNat]
  omega

/-- The step that completes a good frame, in any phase in which bytes are taken. -/
theorem State.feed_encodeFrame {s : State} {m : List Byte} (hm : m.length ≤ 254) (hr : s.rxReady = true)
    (hp : s.pst = .idle) :
    ∃ t, State.feed (encodeFrame m) s = .next t ∧
      HandshakeOf ((s.inBody (lengthByte m) m).afterData (checksum (lengthByte m) m) m) t := by
  have hl := lengthByte_toNat hm
  obtain ⟨t, ht⟩ := dispatchFrame_answers
    (s := (s.inBody (lengthByte m) m).afterData (checksum (lengthByte m) m) m) hr
  refine ⟨t, ?_, handshakeOf_dispatchFrame ht (by simp [State.afterData])⟩
  rw [encodeFrame, State.feed_frame hr hp hl]
  exact State.feed_singleton ((exec_rxByte_inBody_ok hr hl).trans ht)

/-- MSG depends on LEN and RXBUF alone, which the handshake leaves. -/
theorem HandshakeOf.message_eq {u t : State} (h : HandshakeOf u t) : t.message = u.message := by
  rw [h.eq_update]; rfl

/-- In ReadingFrame a Data frame can only be acknowledged. -/
theorem HandshakeOf.eq_queueAck {u t : State} (h : HandshakeOf u t) (hp : u.phase = .readingFrame)
    (hk : u.report.frameKind = .data) : t = u.queueAck := by
  cases h with
  | ackData => rfl
  | event _ hk' => rcases hk' with hk' | hk' | hk' <;> rw [hk] at hk' <;> cases hk'
  | success hp' | again hp' | limit hp' | violation hp' | violationLimit hp' => rw [hp] at hp'; cases hp'

/-- Settles O57: the body bytes come to stand in RXBUF by induction on the message, the checksum is the one
the parser has folded, and the handshake leaves what the parser wrote. -/
theorem encodedFrameRoundTrip : Obligations.EncodedFrameRoundTrip := by
  intro s m _ hm hr hp
  have hl := lengthByte_toNat hm
  obtain ⟨t, hfeed, h⟩ := State.feed_encodeFrame hm hr hp
  obtain ⟨hpst, hlen, -⟩ := h.sameParser
  refine ⟨t, hfeed, hpst, ?len, ?message, ?kind, ?consumed, h.ports_eq, h.sameOut, fun hph => ?ack⟩
  case len => rw [hlen]; exact hl
  case message =>
    rw [h.message_eq]
    exact State.message_afterBody (s := s.inBody (lengthByte m) m) (State.inBody_atLast hl)
      (State.inBody_view (by omega))
  case kind => rw [h.frameKind_eq]; exact dataReport_frameKind _ _ _
  case consumed =>
    rw [h.consumed_eq]
    simp [State.afterData, State.inBody, hl]
  case ack =>
    rw [h.eq_queueAck hph (dataReport_frameKind _ _ _)]
    exact ⟨rfl, rfl⟩

/-- Settles O58: the corrupted frame has the length of the good one and a checksum that is not its own. -/
theorem corruptedFrameRejected : Obligations.CorruptedFrameRejected := by
  intro s m i b _ hm hr hp hlo hhi hb
  obtain ⟨m', c, hset, hlen, hc⟩ := encodeFrame_set_corrupts hlo hhi hb
  have hl : (lengthByte m).toNat = m'.length + 1 := by rw [lengthByte_toNat hm, hlen]
  have hfeed : State.feed ((encodeFrame m).set i b) s = State.feed [c] (s.inBody (lengthByte m) m') := by
    rw [hset, State.feed_frame hr hp hl]
  refine ⟨_, hfeed.trans (State.feed_singleton (exec_rxByte_inBody_bad hr hl hc)), rfl,
    ?consumed, rfl, ⟨rfl, rfl, rfl, rfl, rfl⟩, ⟨rfl, rfl⟩, rfl⟩
  case consumed =>
    simp only [State.consume, frameBytes_toNat, lengthByte_toNat hm]

/-! ### Fragments, and the bytes counted -/

/-- A parser row that answers while `rx_ready = 1` has taken its byte. -/
theorem State.receive_taken {s t : State} {b : Byte} {c : Bool} {r : Result} (hr : s.rxReady = true)
    (h : s.receive b c r = .next t) : r = .next t := by
  rw [State.receive_ready hr] at h
  exact (whenSelected_next.mp h).2

/-- Settles O33: each error row of the parser sets its error in a fresh report, and NON_FRAME answers the same
state. -/
theorem fragmentsDoNotDriveHandshake : Obligations.FragmentsDoNotDriveHandshake := by
  intro s
  refine ⟨fun i b t hi hr h => ?errors, fun hr hk => ?nonFrame⟩
  case errors =>
    obtain rfl | rfl | rfl := hi
    · cases State.receive_taken hr h
      exact ⟨⟨rfl, rfl, rfl, rfl, rfl⟩, rfl, rfl⟩
    · cases State.receive_taken hr h
      exact ⟨⟨rfl, rfl, rfl, rfl, rfl⟩, rfl, rfl⟩
    · obtain ⟨u, hu, h⟩ := orFault_next.mp (State.receive_taken hr h)
      obtain ⟨-, rfl⟩ := State.endBody_ok.mp hu
      cases h
      exact ⟨⟨rfl, rfl, rfl, rfl, rfl⟩, rfl, rfl⟩
  case nonFrame =>
    obtain ⟨hf, hp⟩ := State.rxReady_iff.mp hr
    exact whenSelected_of (Bool.or_eq_true_iff.mpr (hp.imp (State.takesFrame_iff.mpr ⟨hf, ·, hk⟩)
      (State.takesFrame_iff.mpr ⟨hf, ·, hk⟩)))

/-- In P_IDLE no frame is half received. -/
theorem State.position_of_idle {s : State} (h : s.pst = .idle) : s.position = 0 := by
  simp [State.position, h]

/-- Settles O59: a byte of an unfinished frame moves the position, and a completed one gives it back. -/
theorem byteAccounting : Obligations.ByteAccounting := by
  intro s t b hr h
  cases execRxByte_next hr h with
  | sof hp => simp [State.position, hp]
  | control k t hp hb h =>
    rw [State.position_of_idle hp, State.position_of_idle (h.pst_eq.trans hp), h.consumed_eq]
    rfl
  | ftUnknown hp => rw [State.position_of_idle hp, State.position_of_idle (by exact hp)]; rfl
  | lenNonzero hp => simp [State.position, hp]
  | lenZero hp => simp [State.position, hp, State.consume, State.raise]
  | bodyByte hp hc =>
    have hcnt := cnt_succ_toNat (s := s) (by omega)
    simp [State.position, hp]
    omega
  | checksumOk msg t hp hc hb hm h =>
    rw [State.position_of_idle h.pst_eq, h.consumed_eq]
    simp only [State.position, hp, State.afterData, dataReport_consumed, frameBytes_toNat]
    omega
  | checksumBad hp hc =>
    simp only [State.position, hp, State.consume, State.raise, frameBytes_toNat]
    omega

end Sys2Proof.Machine
end

section
/-! PROOFS. What holds of every step and along runs: half-duplex (`10_state.md` R42 (vii)), the marks of a
fatal error (`60_exceptions.md` section 4) and of a write owed (`30_encoding.md` R100), the life of a view
(`70_reset_and_hazards.md` R262), the retry count and the violation's recovery (`43_handshake.md` R171 to
R178). -/

namespace Sys2Proof.Machine

/-! ### Half-duplex -/

theorem State.not_rxReady_of_isWriting {s : State} (h : s.phase.isWriting = true) : s.rxReady = false := by
  rcases Phase.isWriting_iff.mp h with hp | hp <;> simp [State.rxReady, hp]

theorem State.not_sendReady_of_isWriting {s : State} (h : s.phase.isWriting = true) :
    s.sendReady = false := by
  rcases Phase.isWriting_iff.mp h with hp | hp <;> simp [State.sendReady, hp]

theorem State.reset_pending_of_fetch {s u : State} {cfg : Cfg} (h : s.fetch = some (.reset cfg, u)) :
    s.ports.reset ≠ [] := by
  obtain ⟨v, d, hv, -⟩ := State.fetch_some h
  obtain ⟨rest, hp, -⟩ : ∃ rest, s.ports.reset = cfg :: rest ∧
      v = { s with ports := { s.ports with reset := rest } } := by
    simpa using State.mem_offers hv
  simp [hp]

/-- Only RESET and a received byte write the parser's registers or its buffer. -/
theorem EventStep.sameParser {u t : State} {i : Instr} (h : EventStep u i t)
    (hi : ∀ cfg, i ≠ .reset cfg) (hr : u.rxReady = false) : u.sameParser t := by
  cases h with
  | reset cfg => exact absurd rfl (hi cfg)
  | rxByte hr' _ => rw [hr] at hr'; cases hr'
  | _ => exact ⟨rfl, rfl, rfl, rfl, rfl⟩

/-- Settles O48: in a writing phase neither bytes nor requests are enabled, so the step can only be an event
that leaves the parser alone. -/
theorem writingPhasesTakeNoByte : Obligations.WritingPhasesTakeNoByte := by
  intro s t
  refine ⟨fun ⟨hr, hv⟩ => ?never, fun hw hreset h => ?step⟩
  case never =>
    have hw : s.phase.isWriting = true := Phase.isWriting_iff.mpr (State.txValid_iff.mp hv).2
    rw [State.not_rxReady_of_isWriting hw] at hr
    cases hr
  case step =>
    have hrx := State.not_rxReady_of_isWriting hw
    refine ⟨?_, step_rx_of_not_rxReady h hrx,
      step_send_of_not_sendReady h (State.not_sendReady_of_isWriting hw)⟩
    obtain ⟨-, rfl⟩ | ⟨e, u, i, hf, henc, hstep⟩ := step_event h
    · exact ⟨rfl, rfl, rfl, rfl, rfl⟩
    have hi : ∀ cfg, i ≠ .reset cfg := by
      rintro cfg rfl
      obtain rfl : Event.reset cfg = e := Event.toInput_injective henc
      exact State.reset_pending_of_fetch hf hreset
    obtain ⟨p, d, rfl, -⟩ := State.fetch_update hf
    exact hstep.sameParser hi hrx

/-! ### The marks of a fatal error -/

/-- The step from `s` to `t` has set FATAL exactly if it reports a fatal error, and then only that. -/
def FatalByError (s t : State) : Prop :=
  (t.fatal = true ↔ t.report.err = .transport ∨ t.report.err = .retryLimit) ∧
    (t.fatal = true → t.phase = s.phase ∧ t.retry = s.retry ∧ t.rtxp = s.rtxp ∧ s.sameOut t)

section
variable {s t u : State} {b : Byte} {i : Instr}

theorem fatalByError_of_not_fatal (hf : t.fatal = false)
    (he : t.report.err ≠ .transport ∧ t.report.err ≠ .retryLimit) : FatalByError s t :=
  ⟨by simp [hf, he.1, he.2], by simp [hf]⟩

theorem HandshakeOf.fatalByError (hf : u.fatal = false)
    (he : u.report.err ≠ .transport ∧ u.report.err ≠ .retryLimit) (h : HandshakeOf u t) :
    FatalByError u t := by
  cases h with
  | limit | violationLimit => exact ⟨by simp, fun _ => ⟨rfl, rfl, rfl, rfl, rfl⟩⟩
  | _ => exact fatalByError_of_not_fatal hf he

theorem dataReport_err_ne (rom : Rom) (len : Byte) (msg : List Byte) :
    (dataReport rom len msg).err ≠ .transport ∧ (dataReport rom len msg).err ≠ .retryLimit := by
  rcases dataReport_err rom len msg with h | h | h <;> simp [h]

theorem ParserStep.fatalByError (hf : s.fatal = false) (h : ParserStep s b t) : FatalByError s t := by
  cases h with
  | control k t hp hb h =>
    exact h.fatalByError (u := s.afterControl k) hf (by simp [State.afterControl, State.completeFrame])
  | checksumOk msg t hp hc hb hm h =>
    exact h.fatalByError (u := s.afterData b msg) hf (dataReport_err_ne _ _ _)
  | ftUnknown | lenZero | checksumBad =>
    exact fatalByError_of_not_fatal hf (by simp [State.consume, State.errTag, State.raise])
  | _ => exact fatalByError_of_not_fatal hf (by simp)

theorem EventStep.fatalByError (hf : u.fatal = false) (h : EventStep u i t) : FatalByError u t := by
  cases h with
  | reset cfg => exact fatalByError_of_not_fatal rfl (by simp)
  | rxByte _ h => exact h.fatalByError hf
  | timeoutLimit => exact ⟨by simp, fun _ => ⟨rfl, rfl, rfl, rfl, rfl⟩⟩
  | xportErr => exact ⟨by simp, fun _ => ⟨rfl, rfl, rfl, rfl, rfl⟩⟩
  | send => exact fatalByError_of_not_fatal hf ⟨nofun, nofun⟩
  | _ => exact fatalByError_of_not_fatal hf (by simp)

end

/-- Settles O46: the events that set FATAL are those that report a fatal error, row by row. -/
theorem fatalExactlyByFatalError : Obligations.FatalExactlyByFatalError := by
  intro s t hf hne h
  obtain ⟨hnone, -⟩ | ⟨e, u, i, hfetch, -, hstep⟩ := step_event h
  · exact absurd hnone hne
  obtain ⟨p, d, rfl, -⟩ := State.fetch_update hfetch
  exact hstep.fatalByError (u := { s with ports := p, draws := d }) hf

/-! ### The marks of a write owed -/

/-- The report of the step from `s` to `t` marks exactly the entry into a writing phase. -/
def EntryMarked (s t : State) : Prop :=
  t.report.needsWrite ≠ .none ↔ t.phase.isWriting = true ∧ t.phase ≠ s.phase

section
variable {s t u : State} {b : Byte} {i : Instr}

theorem entryMarked_of_no_entry (hn : t.report.needsWrite = .none)
    (hp : t.phase.isWriting = true → t.phase = s.phase) : EntryMarked s t :=
  ⟨fun h => absurd hn h, fun h => absurd (hp h.1) h.2⟩

theorem entryMarked_of_entry (hn : t.report.needsWrite ≠ .none) (hp : t.phase.isWriting = true)
    (hne : t.phase ≠ s.phase) : EntryMarked s t :=
  ⟨fun _ => ⟨hp, hne⟩, fun _ => hn⟩

theorem HandshakeOf.entryMarked (hn : u.report.needsWrite = .none) (h : HandshakeOf u t) :
    EntryMarked u t := by
  cases h with
  | ackData hp | again hp | violation hp => exact entryMarked_of_entry nofun rfl (by rw [hp]; nofun)
  | event | limit | violationLimit => exact entryMarked_of_no_entry hn fun _ => rfl
  | success => exact entryMarked_of_no_entry hn nofun

theorem ParserStep.entryMarked (h : ParserStep s b t) : EntryMarked s t := by
  cases h with
  | control k t hp hb h => exact h.entryMarked (u := s.afterControl k) rfl
  | checksumOk msg t hp hc hb hm h =>
    exact h.entryMarked (u := s.afterData b msg) (dataReport_needsWrite _ _ _)
  | _ => exact entryMarked_of_no_entry rfl fun _ => rfl

theorem EventStep.entryMarked (h : EventStep u i t) : EntryMarked u t := by
  cases h with
  | rxByte _ h => exact h.entryMarked
  | send hr =>
    have hp := (State.sendReady_iff.mp hr).2.1
    exact entryMarked_of_entry nofun rfl (by rw [hp]; nofun)
  | retransmit _ hp | timeout _ hp => exact entryMarked_of_entry nofun rfl (by rw [hp]; nofun)
  | reset | messageWritten | ackWritten => exact entryMarked_of_no_entry rfl nofun
  | _ => exact entryMarked_of_no_entry rfl fun _ => rfl

end

/-- Settles O50: the rows that queue a write are those that enter a writing phase. -/
theorem needsWriteMarksEntry : Obligations.NeedsWriteMarksEntry := by
  intro s t hne h
  obtain ⟨hnone, -⟩ | ⟨e, u, i, hfetch, -, hstep⟩ := step_event h
  · exact absurd hnone hne
  obtain ⟨p, d, rfl, -⟩ := State.fetch_update hfetch
  exact hstep.entryMarked

/-! ### The life of a view -/

section
variable {s t u : State} {b : Byte} {i : Instr}

/-- The view a report gives, as its fields say it. -/
def Report.givenView (r : Report) (serial : Nat) : Option View :=
  if r.msgKind = .infoReceived then some { serial := serial, off := r.restOff, len := r.restLen }
  else if r.remLen ≠ 0 then some { serial := serial, off := r.remOff, len := r.remLen }
  else none

/-- The view of a decoded message is the one its report gives: a remainder is never empty. -/
theorem decodeMessage_view_eq (rom : Rom) (len : Byte) {msg : List Byte} (hlen : msg.length ≤ 254)
    (n : Nat) : (decodeMessage rom msg).view n = (dataReport rom len msg).givenView n := by
  have hd := decodeMessage_descent rom msg
  unfold dataReport
  generalize decodeMessage rom msg = r at hd
  cases hd with
  | short => rfl
  | info => rfl
  | mtUnknown | rqUnknown | rsUnknown | auUnknown =>
    simp only [List.length_cons] at hlen
    simp only [DecodeResult.view, Report.givenView, reduceCtorEq, if_false]
    rw [if_pos]
    intro h
    have h0 := congrArg BitVec.toNat h
    simp only [BitVec.toNat_ofNat, BitVec.ofNat_eq_ofNat] at h0
    omega

theorem HandshakeOf.givenView_eq (h : HandshakeOf u t) (n : Nat) :
    t.report.givenView n = u.report.givenView n := by
  rw [h.eq_update]; rfl

/-- A received byte ends every view, and a completed Data frame gives the one of its report. -/
theorem ParserStep.view (h : ParserStep s b t) :
    (t.report.frameKind ≠ .data ∧ t.view = none ∧ t.frames = s.frames) ∨
      (t.report.frameKind = .data ∧ t.frames = s.frames + 1 ∧ t.view = t.report.givenView t.frames) := by
  cases h with
  | control k t hp hb h =>
    rw [h.frameKind_eq, h.view_eq, h.frames_eq]
    have hk : k ≠ .data := by rcases hb with ⟨-, rfl⟩ | ⟨-, rfl⟩ | ⟨-, rfl⟩ <;> decide
    exact .inl ⟨hk, rfl, rfl⟩
  | checksumOk msg t hp hc hb hm h =>
    rw [h.frameKind_eq, h.view_eq, h.frames_eq, h.givenView_eq]
    have hlen : msg.length ≤ 254 := by
      have := Memory.view_length hm
      have := s.len.isLt
      omega
    exact .inr ⟨dataReport_frameKind _ _ _, rfl, decodeMessage_view_eq _ _ hlen _⟩
  | _ => exact .inl ⟨nofun, rfl, rfl⟩

/-- A view given by a report carries the count of that report. -/
theorem Report.serial_of_givenView {r : Report} {n : Nat} {v : View} (h : r.givenView n = some v) :
    v.serial = n := by
  unfold Report.givenView at h
  split_ifs at h <;> cases h <;> rfl

/-- After a received byte a live view is one that this step has given. -/
theorem ParserStep.serial_of_view {v : View} (h : ParserStep s b t) (hv : t.view = some v) :
    v.serial = s.frames + 1 := by
  obtain ⟨-, hnone, -⟩ | ⟨-, hframes, hgiven⟩ := h.view
  · rw [hnone] at hv; cases hv
  · rw [hgiven, hframes] at hv
    exact Report.serial_of_givenView hv

theorem ParserStep.frames_le (h : ParserStep s b t) : s.frames ≤ t.frames := by
  obtain ⟨-, -, hf⟩ | ⟨-, hf, -⟩ := h.view <;> omega

/-- The events that are neither RESET nor a received byte leave the live view and its cells. -/
theorem EventStep.view_eq (h : EventStep u i t) (hrx : ∀ b, i ≠ .rxByte b) (hi : ∀ cfg, i ≠ .reset cfg) :
    t.view = u.view ∧ t.frames = u.frames ∧ t.rxbuf = u.rxbuf := by
  cases h with
  | reset cfg => exact absurd rfl (hi cfg)
  | rxByte _ _ => exact absurd rfl (hrx _)
  | _ => exact ⟨rfl, rfl, rfl⟩

/-- A view that is not live, of a report already made, does not come to life. -/
theorem EventStep.view_ne {v : View} (h : EventStep u i t) (hv : v.serial ≤ u.frames)
    (hne : u.view ≠ some v) : t.view ≠ some v ∧ v.serial ≤ t.frames := by
  cases h with
  | reset cfg => exact ⟨nofun, hv⟩
  | rxByte _ h =>
    exact ⟨fun ht => by have := h.serial_of_view ht; omega, hv.trans h.frames_le⟩
  | _ => exact ⟨hne, hv⟩

theorem State.readView_not_live {v : View} (h : s.view ≠ some v) : s.readView v = .error .viewExpired := by
  simp [State.readView, h]

/-- A live view is answered, from the cells it names. -/
theorem State.Inv.readView {v : View} (hi : s.Inv) (hv : s.view = some v) :
    ∃ bs, s.readView v = .ok bs ∧ Memory.view s.rxbuf v.off.toNat v.len.toNat = some bs ∧
      bs.length = v.len.toNat := by
  obtain ⟨-, -, bs, hbs⟩ := hi.liveView v hv
  exact ⟨bs, State.readView_ok.mpr ⟨hv, hbs⟩, hbs, Memory.view_length hbs⟩

end

/-- Settles O60: only a received byte and RESET touch the live view; the view a byte gives has a serial that
no view before it had. -/
theorem viewLife : Obligations.ViewLife := by
  intro s t
  refine ⟨fun b hr h => ?byte, fun i hi hrx hreset h => ?event, fun cfg h => ?reset,
    fun v hi hv => hi.readView hv, fun v hv => State.readView_not_live hv, fun v hle hne h => ?step,
    fun v b hi hv hr h => ?expires⟩
  case byte =>
    obtain ⟨hk, hv, hf⟩ | ⟨hk, hf, hv⟩ := (execRxByte_next hr h).view
    · exact ⟨fun _ => ⟨hv, hf⟩, fun hd => absurd hd hk⟩
    · exact ⟨fun hd => absurd hk hd, fun _ => ⟨hf, hv⟩⟩
  case event =>
    obtain ⟨b, rfl⟩ | ⟨m, rfl⟩ | hstep := exec_eventRow_next hi h
    · exact ⟨rfl, rfl, rfl⟩
    · exact ⟨rfl, rfl, rfl⟩
    · exact hstep.view_eq hrx hreset
  case reset =>
    cases h
    exact ⟨rfl, rfl⟩
  case step =>
    obtain ⟨-, rfl⟩ | ⟨e, u, i, hfetch, -, hstep⟩ := step_event h
    · exact ⟨hne, hle⟩
    obtain ⟨p, d, rfl, -⟩ := State.fetch_update hfetch
    exact hstep.view_ne hle hne
  case expires =>
    have hstep := execRxByte_next hr h
    have hserial := (hi.liveView v hv).1
    exact ⟨State.readView_not_live fun ht => by have := hstep.serial_of_view ht; omega,
      hserial.le.trans hstep.frames_le⟩

/-! ### One event at a time -/

section
variable {s : State}

theorem State.deliver_eq {e : Event} {i : Instr} (h : decodeEvent (s.ctx .ev) e = .ok i) :
    s.deliver e = exec i s := by
  simp only [State.deliver, decode_event (s.ctx .ev) e rfl, h]

theorem State.deliver_rxByte (b : Byte) : s.deliver (.rxByte b) = exec (.rxByte b) s :=
  State.deliver_eq rfl

theorem State.deliver_send {m : List Byte} (hr : s.sendReady = true) (hm : legalLength m = true) :
    s.deliver (.send m) = .next (s.acceptSend m) := by
  rw [State.deliver_eq (i := .send m) (by simp [decodeEvent, decodeSend, hm]), exec_send hr hm]

theorem State.deliver_txDone_writingMessage (hf : s.fatal = false) (hp : s.phase = .writingMessage) :
    s.deliver .txDone = .next { s.begin with phase := .awaitingAck } := by
  rw [State.deliver_eq (i := .txDoneWritingMessage)
    (by simp [decodeEvent, decodeTxDone, State.ctx, hf, hp]), exec_txDoneWritingMessage hf hp]

theorem State.deliver_txDone_owed (hf : s.fatal = false) (hp : s.phase = .writingAck)
    (hx : s.rtxp = true) :
    s.deliver .txDone = .next (({ s.begin with rtxp := false }).queueOut.setRpt .needsWrite) := by
  rw [State.deliver_eq (i := .txDoneWritingAckRetransmit)
    (by simp [decodeEvent, decodeTxDone, State.ctx, hf, hp, hx]),
    exec_txDoneWritingAckRetransmit hf hp hx]

theorem State.deliver_timeout (hf : s.fatal = false) (hp : s.phase = .awaitingAck)
    (hlt : s.retry.toNat < s.cfg.maxRetry.toNat) :
    s.deliver .timeout = .next (s.begin.countRetry.queueOut.setRpt .needsWrite) := by
  have hr : s.retriesLeft = true := State.retriesLeft_iff.mpr hlt
  rw [State.deliver_eq (i := .timeoutAwaitingAck)
    (by simp [decodeEvent, decodeTimeout, State.ctx, hf, hp, hr]), exec_timeoutAwaitingAck hf hp hlt]

theorem State.deliver_timeout_limit (hf : s.fatal = false) (hp : s.phase = .awaitingAck)
    (hle : s.cfg.maxRetry.toNat ≤ s.retry.toNat) :
    s.deliver .timeout = .next s.begin.exceedLimit := by
  have hr : s.retriesLeft = false := State.retriesLeft_eq_false_iff.mpr hle
  rw [State.deliver_eq (i := .timeoutRetryLimit)
    (by simp [decodeEvent, decodeTimeout, State.ctx, hf, hp, hr]), exec_timeoutRetryLimit hf hp hle]

/-! ### Retry counting -/

/-- The state after one round: the deadline, and the message written again. -/
def State.afterRound (s : State) : State :=
  { s.begin with retry := s.retry + 1, phase := .awaitingAck }

theorem State.timeoutRounds_succ (hf : s.fatal = false) (hp : s.phase = .awaitingAck)
    (hlt : s.retry.toNat < s.cfg.maxRetry.toNat) (n : Nat) :
    State.timeoutRounds (n + 1) s = State.timeoutRounds n s.afterRound := by
  have hdone : State.deliver (s.begin.countRetry.queueOut.setRpt .needsWrite) .txDone =
      .next s.afterRound := State.deliver_txDone_writingMessage hf rfl
  simp only [State.timeoutRounds, State.deliver_timeout hf hp hlt, hdone]

/-- Each round counts one retransmission of the same frame, as long as one is left. -/
theorem State.timeoutRounds_next (n : Nat) (hf : s.fatal = false) (hp : s.phase = .awaitingAck)
    (hle : s.retry.toNat + n ≤ s.cfg.maxRetry.toNat) :
    ∃ t, State.timeoutRounds n s = .next t ∧ t.fatal = false ∧ t.phase = .awaitingAck ∧
      t.retry.toNat = s.retry.toNat + n ∧ s.sameOut t ∧ t.cfg = s.cfg := by
  induction n generalizing s with
  | zero => exact ⟨s, rfl, hf, hp, rfl, ⟨rfl, rfl⟩, rfl⟩
  | succ n ih =>
    have hretry : s.afterRound.retry.toNat = s.retry.toNat + 1 := by
      have := s.cfg.maxRetry.isLt
      change (s.retry + 1).toNat = _
      bv_omega
    have hle' : s.afterRound.retry.toNat + n ≤ s.afterRound.cfg.maxRetry.toNat := by
      change _ ≤ s.cfg.maxRetry.toNat
      omega
    obtain ⟨t, ht, hft, hpt, hrt, hout, hcfg⟩ := ih (s := s.afterRound) hf rfl hle'
    exact ⟨t, (State.timeoutRounds_succ hf hp (by omega) n).trans ht, hft, hpt, by omega, hout, hcfg⟩

end

/-- Settles O51: the accepted message starts with RETRY = 0, the rounds count up to the limit by induction,
and at the limit the next deadline is fatal. -/
theorem retransmissionCount : Obligations.RetransmissionCount := by
  intro s m hr hlo hhi
  have hm : legalLength m = true := legalLength_iff.mpr ⟨hlo, hhi⟩
  obtain ⟨hf, -, -⟩ := State.sendReady_iff.mp hr
  have hdone : (s.acceptSend m).deliver .txDone =
      .next { (s.acceptSend m).begin with phase := .awaitingAck } :=
    State.deliver_txDone_writingMessage hf rfl
  have hrounds : ∀ n, n ≤ s.cfg.maxRetry.toNat →
      ∃ t, State.timeoutRounds n { (s.acceptSend m).begin with phase := .awaitingAck } = .next t ∧
        t.fatal = false ∧ t.phase = .awaitingAck ∧ t.retry.toNat = n ∧ (s.acceptSend m).sameOut t ∧
        t.cfg = s.cfg := fun n hn => by
    have hle : (0 : Byte).toNat + n ≤ s.cfg.maxRetry.toNat := by simpa using hn
    obtain ⟨t, ht, hft, hpt, hrt, hout, hcfg⟩ := State.timeoutRounds_next
      (s := { (s.acceptSend m).begin with phase := .awaitingAck }) n hf rfl hle
    exact ⟨t, ht, hft, hpt, hrt.trans (Nat.zero_add n), hout, hcfg⟩
  refine ⟨_, _, State.deliver_send hr hm, hdone, fun n hn => ?count, ?limit⟩
  case count =>
    obtain ⟨t, ht, hft, hpt, hrt, hout, -⟩ := hrounds n hn
    exact ⟨t, ht, hft, hpt, hrt, hout⟩
  case limit =>
    obtain ⟨t, ht, hft, hpt, hrt, -, hcfg⟩ := hrounds _ le_rfl
    exact ⟨t, _, ht, State.deliver_timeout_limit hft hpt (by rw [hcfg, hrt]), rfl, rfl, rfl, rfl⟩

/-! ### The violation's recovery -/

/-- Settles O52: the violation queues the Ack with a retransmission owed, and the two completions write the
Ack and then OUTBUF, which nothing has touched. -/
theorem violationRecovery : Obligations.ViolationRecovery := by
  intro s b msg hf hph hlt hp hc hb hm
  have hr : s.rxReady = true := State.rxReady_of_awaitingAck hf hph
  have hbyte : s.deliver (.rxByte b) =
      .next (({ (s.afterData b msg).countRetry.violate with rtxp := true }).queueAck) := by
    rw [State.deliver_rxByte, exec_rxByte_body (i := .checksumOk b) hr hp (by simp [decodeBodyb, hc, hb]),
      exec_checksumOk hr hp hc hb hm]
    exact dispatchFrame_of_handshakeOf hf
      (.violation hph (dataReport_frameKind _ _ _) (State.retriesLeft_iff.mpr hlt))
  exact ⟨_, _, _, hbyte, State.deliver_txDone_owed hf rfl rfl, State.deliver_txDone_writingMessage hf rfl,
    State.txBytes_writingAck hf rfl, rfl, State.txBytes_writingMessage hf rfl, rfl, rfl, rfl, rfl, hf,
    rfl, rfl⟩

end Sys2Proof.Machine
end
